-- ==== Sys2Proof/Word.lean ====
section
/-!
DEFINITION. The plain words of the model.

The part has no processor word. What it handles as bits are the bytes of frames and of the
configuration image, the 8-bit masks of hops and lanes and the 12-bit throw sets.
-/

namespace Sys2Proof

/-- One byte of a frame's payload or of the configuration image (R76, R166). -/
abbrev Byte := BitVec 8

/-- A set of hop numbers, bit k for hop k (section 1.7.3). -/
abbrev HopMask := BitVec 8

/-- A set of lanes, bit k for lane k (R45). -/
abbrev LaneMask := BitVec 8

/-- A set of throws 0 to 11, bit t for throw t (R136). -/
abbrev ThrowSet := BitVec 12

end Sys2Proof
end

