-- ==== Sys2Proof/Config.lean ====
section
/-!
DEFINITION. The figures the part fixes, and the one free value of the model.

Figures that the configuration image gives are State's (`ImageConfig`), because the part reads
them at each cold start; the numbers here are those the manual fixes for every node.
-/

namespace Sys2Proof.Config

/-- Frames the transmit queue holds (R86). -/
def txCapacity : Nat := 24

/-- Frames the receive queue holds (R81). -/
def rxCapacity : Nat := 16

/-- Entries of the extension table (R90). -/
def extCapacity : Nat := 4

/-- Upper bound of the bad-frame, transmit-drop and overrun counts (R80, R88, R136). -/
def countMax : Nat := 255

/-- Upper bound of the later-fault count (R155). -/
def laterMax : Nat := 15

/-- Upper bound of a wear count (R21). -/
def wearMax : Nat := 16777215

/-- Actuations for one step of a wear threshold (R22). -/
def wearStep : Nat := 65536

/-- The tentative-claim timer, 20.0 ms in units (R10). -/
def claimUnits : Nat := 200

/-- The gap of a two-pulse move in units (R28). -/
def gapUnits : Nat := 5

/-- A channel's recovery in units (R30). -/
def recoveryUnits : Nat := 10

/-- The longest move duration in units (R28). -/
def durationMax : Nat := 1000

/-- Units between two group reads, 0.5 ms (R56). -/
def readUnits : Nat := 5

/-- Units in one step of the setup timeout, 10 ms (R114). -/
def setupUnits : Nat := 100

/-- The longest payload of a frame in bytes (R76). -/
def payloadMax : Nat := 12

/-- FREE VALUE (log entry 8). Whether an attempt that wins sends the subject of a QUERY taken during its
arbitration field, in place of the REPORT's old one: R87 with R173's third case says that the QUERY
has no effect, R173's last paragraph that a QUERY taken before the attempt wins goes out in it. The
n-th such attempt of a run reads `queryReplaces n`; nothing is known of it. -/
opaque queryReplaces : Nat → Bool

end Sys2Proof.Config
end

