-- ==== Sys2Proof/Syntax.lean ====
section
/-!
DEFINITION. The commands of the node: one constructor of `Instr` for each row of
spec/opcode_table.json, with the operands that come from outside the node.

A row whose data the node itself holds (the frame at the head of the receive queue, the REPORT
that waits) has no operand: the command says only that the event takes place.
-/

namespace Sys2Proof

/-- A station address, 0 to 63 (R73). -/
abbrev Address := Fin 64

/-- A gate, its trigger input and its anchor slot, 0 to 7. -/
abbrev Gate := Fin 8

/-- An element number, E0 to E15. -/
abbrev ElemNo := Fin 16

/-- A throw number as a frame's 4-bit field can carry it; an element of n throws has 0 to n−1. -/
abbrev Throw := Fin 16

/-- A hop number, 0 to 7. -/
abbrev HopNo := Fin 8

/-- A lane, 0 to 7. -/
abbrev Lane := Fin 8

/-- One of the four drive channels. -/
abbrev ChannelNo := Fin 4

/-- A path's handle a/g (section 1.7.3). -/
structure Handle where
  anchor : Address
  gate   : Gate
  deriving DecidableEq, Repr

/-- A frame as it stands on the line, from the arbitration field to the CRC (R76). The length field
is the number of payload bytes; the start bit and the end field carry no data. -/
structure RawFrame where
  cls     : BitVec 2
  sender  : BitVec 6
  kind    : BitVec 5
  payload : List Byte
  crc     : BitVec 16
  deriving DecidableEq, Repr

/-- The commands: the rows of spec/opcode_table.json, in the table's order. -/
inductive Instr where
  /-- RESET_LOW (R165). -/
  | resetLow
  /-- RESET_HIGH (R166): the levels of ADDR5 to ADDR0 at that instant. -/
  | resetHigh (straps : BitVec 6)
  /-- IMAGE_READ_DONE (R167): the bytes the node took from the configuration memory. -/
  | imageReadDone (image : List Byte)
  /-- SENSE_GROUP_READ (R58): for each of the eight elements of the group read, its closed contacts. -/
  | senseGroupRead (contacts : List ThrowSet)
  /-- MOVE_D_EXPIRES (R32): D of the move in service for an element. -/
  | moveDExpires (e : ElemNo)
  /-- CASCADE_FRONT_PULSE_END (R29). -/
  | cascadeFrontPulseEnd (ch : ChannelNo)
  /-- CASCADE_GAP_END (R29). -/
  | cascadeGapEnd (ch : ChannelNo)
  /-- PULSING_END (R30). -/
  | pulsingEnd (ch : ChannelNo)
  /-- CHANNEL_RECOVERY_END (R39). -/
  | channelRecoveryEnd (ch : ChannelNo)
  /-- COILOK_RISE (R51). -/
  | coilokRise
  /-- COILOK_FALL (R52). -/
  | coilokFall
  /-- TENTATIVE_CLAIM_TIMER_EXPIRY (R104): of the claims for a handle. -/
  | tentativeClaimTimerExpiry (h : Handle)
  /-- SETUP_STEP_TIMER_EXPIRY (R119). -/
  | setupStepTimerExpiry (g : Gate)
  /-- QUENCH_TIMER_EXPIRY_RELEASE (R123). -/
  | quenchTimerExpiryRelease (g : Gate)
  /-- QUENCH_TIMER_EXPIRY_STEP (R124). -/
  | quenchTimerExpiryStep (g : Gate)
  /-- RESUME_TIMER_EXPIRY (R153). -/
  | resumeTimerExpiry (g : Gate)
  /-- TRIGGER_EDGE (R142): a rising edge on Tg. -/
  | triggerEdge (g : Gate)
  /-- QUENCH_ASSERTION_SENSED (R152). -/
  | quenchAssertionSensed
  /-- QUENCH_RELEASE_SENSED (R153). -/
  | quenchReleaseSensed
  /-- LINE_IDLE_RESYNC (R73). -/
  | lineIdleResync
  /-- TX_ATTEMPT_START (R86). -/
  | txAttemptStart
  /-- ARBITRATION_LOST (R74). -/
  | arbitrationLost
  /-- ARBITRATION_WON (R174). -/
  | arbitrationWon
  /-- FRAME_END (R80): `none` is the end of the frame this node is sending, `some f` that of another
  station's frame; `flagged` says whether another station drove the check slot dominant (R75). -/
  | frameEnd (frame : Option RawFrame) (flagged : Bool)
  /-- FRAME_SEEN_ROUTE (R94). -/
  | frameSeenRoute
  /-- FRAME_SEEN_ROUTE_EXT (R90). -/
  | frameSeenRouteExt
  /-- FRAME_SEEN_ACCEPT (R102). -/
  | frameSeenAccept
  /-- FRAME_SEEN_REFUSE (R103). -/
  | frameSeenRefuse
  /-- FRAME_SEEN_HOPSTAT (R117). -/
  | frameSeenHopstat
  /-- FRAME_SEEN_HOT (R108). -/
  | frameSeenHot
  /-- FRAME_SEEN_COLD (R108). -/
  | frameSeenCold
  /-- FRAME_SEEN_RELEASE (R109). -/
  | frameSeenRelease
  /-- FRAME_SEEN_BREAK (R127). -/
  | frameSeenBreak
  /-- FRAME_SEEN_SCAN (R138). -/
  | frameSeenScan
  /-- FRAME_SEEN_ADVANCE (R142). -/
  | frameSeenAdvance
  /-- FRAME_SEEN_DROP (R126). -/
  | frameSeenDrop
  /-- FRAME_SEEN_LANEHOLD (R45). -/
  | frameSeenLanehold
  /-- FRAME_SEEN_QUERY (R173). -/
  | frameSeenQuery
  /-- FRAME_SEEN_REPORT (R177). -/
  | frameSeenReport
  /-- FRAME_SEEN_NOTICE (R177). -/
  | frameSeenNotice
  /-- FRAME_SEEN_CLEARFAULT (R156). -/
  | frameSeenClearfault
  /-- FRAME_SEEN_RESTART (R158). -/
  | frameSeenRestart
  /-- TEARDOWN_FRAME_QUEUED (R159). -/
  | teardownFrameQueued
  /-- RESTART_WITHDRAWAL_STEP (R161). -/
  | restartWithdrawalStep
  /-- RESTART_RELEASE_STEP (R161). -/
  | restartReleaseStep
  /-- OVER_LONG_FRAME (R80). -/
  | overLongFrame
  deriving DecidableEq, Repr

end Sys2Proof
end

