-- ==== Sys2Proof/Decode.lean ====
section
/-!
DEFINITION. Words that spell commands. No row of spec/opcode_table.json gives bits: a command of
this part is an event, not a word. So no word spells one. (The words the part does decode, the
frames of the Fabric Line, are decoded in Machine/Codec.lean.)
-/

namespace Sys2Proof

/-- The command that a word of `nbits` bits spells: none, since no row of the table gives bits. -/
def decodeTableWord (_nbits _w : Nat) : Option Instr := none

end Sys2Proof
end

