-- ==== Sys2Proof/Machine/Frame.lean ====
section
/-!
DEFINITION. What frames carry: reasons, fault kinds, statuses, subjects and the eighteen frame
kinds of R77, as data. Their bits are in Machine/Codec.lean.
-/

namespace Sys2Proof.Machine

/-- The reasons of R78. -/
inductive Reason where
  | none | notRunning | malformed | noSuchElement | badThrow | handleBusy | faulted | busy
  | noAnchor | stuck | gateDisabled | gateBusy | hopRefused | hopFault | dropped | setupTimeout
  | stepTimeout | broken | restart | dropOut | badSet | done
  deriving DecidableEq, Repr

/-- A reason as a frame carries it: a received code may be none of R78's. -/
abbrev ReasonCode := BitVec 5

/-- The fault kinds of R155. -/
inductive FaultKind where
  | stuck | dropOut | supplyLost | txLost | rxOverrun | configBad
  deriving DecidableEq, Repr

/-- A HOPSTAT's status (R77). -/
inductive Status where
  | ready | refused | fault | scanRefused
  deriving DecidableEq, Repr

/-- A NOTICE's kind (R77). -/
inductive NoticeKind where
  | started | faultCaptured | scanEnd | scanRefused
  deriving DecidableEq, Repr

/-- What a QUERY asks for and a REPORT answers (R78): a subject kind and an index. -/
structure Subject where
  kind  : Fin 4
  index : Fin 16
  deriving DecidableEq, Repr

/-- The target of a LANEHOLD, QUERY, CLEARFAULT or RESTART (R77). -/
structure Target where
  all     : Bool
  address : Address
  deriving DecidableEq, Repr

/-- One hop of a path: node, element and throw (R77). -/
structure Hop where
  node    : Address
  element : ElemNo
  throw   : Throw
  deriving DecidableEq, Repr

/-- A COLD's purpose (R77): all, or a step that names a hop and a throw. -/
inductive ColdPurpose where
  | all
  | step (hop : HopNo) (throw : Throw)
  deriving DecidableEq, Repr

/-- The frames of R77. A REPORT's content is kept as the bits that follow its subject (R78), since
no rule reads a received one. A ROUTE's count is its field, 0 to 15; a ROUTE-EXT's count is the
number of its hops. -/
inductive Frame where
  | brk (h : Handle) (mask : HopMask) (reason : ReasonCode)
  | hot (h : Handle)
  | cold (h : Handle) (purpose : ColdPurpose)
  | release (h : Handle) (reason : ReasonCode)
  | accept (h : Handle)
  | refuse (h : Handle) (reason : ReasonCode)
  | hopstat (h : Handle) (mask : HopMask) (status : Status) (reason : BitVec 4) (wear : Bool)
  | route (h : Handle) (lane : Lane) (count : Fin 16) (extended : Bool) (hops : List Hop)
  | routeExt (h : Handle) (hops : List Hop)
  | scan (h : Handle) (throws : ThrowSet) (dwell cycles : BitVec 8)
  | advance (h : Handle)
  | drop (h : Handle)
  | laneHold (target : Target) (mask : LaneMask)
  | query (target : Target) (subject : Subject)
  | report (subject : Subject) (content : List Bool)
  | notice (kind : NoticeKind) (handle : Option Handle) (detail : BitVec 5)
  | clearFault (target : Target)
  | restart (target : Target)
  deriving DecidableEq, Repr

end Sys2Proof.Machine
end

