-- ==== Sys2Proof/Machine/Codec.lean ====
section
/-!
DEFINITION. The bits of a frame (R76 to R78): codes, classes, payload layouts and the CRC, and the
checks a receiver makes of a frame's form (R80, checks 3 to 5).
-/

namespace Sys2Proof.Machine

/-! ### Bits, most significant first -/

/-- The low `w` bits of `n`, most significant first. -/
def natBits : Nat → Nat → List Bool
  | 0, _ => []
  | w + 1, n => n.testBit w :: natBits w n

/-- The number that bits spell, most significant first. -/
def bitsNat (bs : List Bool) : Nat :=
  bs.foldl (fun n b => 2 * n + b.toNat) 0

/-- The field of `w` bits that begins at bit `off`, as a number; bits past the end read 0. -/
def field (bs : List Bool) (off w : Nat) : Nat :=
  bitsNat (((bs.drop off).take w) ++ List.replicate (w - (bs.length - off)) false)

/-- The bits of bytes, in order. -/
def bytesBits : List Byte → List Bool
  | [] => []
  | b :: bs => natBits 8 b.toNat ++ bytesBits bs

/-- `n` bytes from bits, the last filled out with 0 bits (R77). -/
def bitsBytes : Nat → List Bool → List Byte
  | 0, _ => []
  | n + 1, bs => BitVec.ofNat 8 (field bs 0 8) :: bitsBytes n (bs.drop 8)

/-! ### Codes (R77, R78) -/

/-- The reason codes of R78. -/
def Reason.code : Reason → ReasonCode
  | .none => 0
  | .notRunning => 1
  | .malformed => 2
  | .noSuchElement => 3
  | .badThrow => 4
  | .handleBusy => 5
  | .faulted => 6
  | .busy => 7
  | .noAnchor => 8
  | .stuck => 9
  | .gateDisabled => 10
  | .gateBusy => 11
  | .hopRefused => 12
  | .hopFault => 13
  | .dropped => 14
  | .setupTimeout => 15
  | .stepTimeout => 16
  | .broken => 17
  | .restart => 18
  | .dropOut => 19
  | .badSet => 20
  | .done => 21

/-- A reason in HOPSTAT's 4-bit field (R78). -/
def Reason.code4 (r : Reason) : BitVec 4 := r.code.setWidth 4

/-- The fault kind codes of R78; 0 stands for no fault. -/
def FaultKind.code : FaultKind → Nat
  | .stuck => 1
  | .dropOut => 2
  | .supplyLost => 3
  | .txLost => 4
  | .rxOverrun => 5
  | .configBad => 6

/-- The status codes of R77. -/
def Status.code : Status → Nat
  | .ready => 0
  | .refused => 1
  | .fault => 2
  | .scanRefused => 3

/-- The status of a 2-bit code (R77). -/
def Status.ofCode : Nat → Status
  | 0 => .ready
  | 1 => .refused
  | 2 => .fault
  | _ => .scanRefused

/-- The notice kind codes of R77. -/
def NoticeKind.code : NoticeKind → Nat
  | .started => 0
  | .faultCaptured => 1
  | .scanEnd => 2
  | .scanRefused => 3

/-- The notice kind of a 2-bit code (R77). -/
def NoticeKind.ofCode : Nat → NoticeKind
  | 0 => .started
  | 1 => .faultCaptured
  | 2 => .scanEnd
  | _ => .scanRefused

/-- A frame's class (R77): 0 is the most urgent. -/
def Frame.cls : Frame → Nat
  | .brk .. => 0
  | .hot .. | .cold .. | .release .. | .accept .. | .refuse .. | .hopstat .. => 1
  | .route .. | .routeExt .. | .scan .. | .advance .. | .drop .. | .laneHold .. => 2
  | .query .. | .report .. | .notice .. | .clearFault .. | .restart .. => 3

/-- A frame's kind code (R77). -/
def Frame.code : Frame → Nat
  | .brk .. => 1
  | .hot .. => 4
  | .cold .. => 5
  | .release .. => 6
  | .accept .. => 7
  | .refuse .. => 8
  | .hopstat .. => 9
  | .route .. => 12
  | .routeExt .. => 13
  | .scan .. => 14
  | .advance .. => 15
  | .drop .. => 16
  | .laneHold .. => 17
  | .query .. => 20
  | .report .. => 21
  | .notice .. => 22
  | .clearFault .. => 23
  | .restart .. => 24

/-! ### Payloads (R77) -/

/-- The 9 bits of a handle. -/
def handleBits (h : Handle) : List Bool :=
  natBits 6 h.anchor ++ natBits 3 h.gate

/-- A handle as the number of its 9 bits: the order of handles (R159). -/
def handleKey (h : Handle) : Nat := h.anchor.val * 8 + h.gate.val

/-- The 14 bits of a hop. -/
def Hop.bits (h : Hop) : List Bool :=
  natBits 6 h.node ++ natBits 4 h.element ++ natBits 4 h.throw

/-- The bits of hops, in order. -/
def hopsBits : List Hop → List Bool
  | [] => []
  | h :: hs => h.bits ++ hopsBits hs

/-- The 7 bits of a target. -/
def Target.bits (t : Target) : List Bool :=
  t.all :: natBits 6 t.address

/-- The 6 bits of a subject. -/
def Subject.bits (u : Subject) : List Bool :=
  natBits 2 u.kind ++ natBits 4 u.index

/-- A payload's fields in R77's order, before the fill to whole bytes. -/
def Frame.payloadBits : Frame → List Bool
  | .brk h mask reason => handleBits h ++ natBits 8 mask.toNat ++ natBits 5 reason.toNat
  | .hot h | .accept h | .advance h | .drop h => handleBits h
  | .cold h .all => handleBits h ++ natBits 3 0 ++ natBits 4 15
  | .cold h (.step k t) => handleBits h ++ natBits 3 k ++ natBits 4 t
  | .release h reason | .refuse h reason => handleBits h ++ natBits 5 reason.toNat
  | .hopstat h mask status reason wear =>
    handleBits h ++ natBits 8 mask.toNat ++ natBits 2 status.code ++ natBits 4 reason.toNat ++ [wear]
  | .route h lane count extended hops =>
    handleBits h ++ natBits 3 lane ++ natBits 4 count ++ [extended] ++ hopsBits hops
  | .routeExt h hops => handleBits h ++ natBits 3 hops.length ++ hopsBits hops
  | .scan h throws dwell cycles =>
    handleBits h ++ natBits 12 throws.toNat ++ natBits 8 dwell.toNat ++ natBits 8 cycles.toNat
  | .laneHold target mask => target.bits ++ natBits 8 mask.toNat
  | .query target subject => target.bits ++ subject.bits
  | .report subject content => subject.bits ++ content
  | .notice kind handle detail =>
    natBits 2 kind.code ++ [handle.isSome] ++
      (match handle with
        | some h => handleBits h
        | none => natBits 9 0) ++
      natBits 5 detail.toNat
  | .clearFault target | .restart target => target.bits

/-- The payload length of a ROUTE with count field `c` (R77). -/
def routeLength (c : Nat) : Nat := (17 + 14 * min c 4 + 7) / 8

/-- The payload length of a ROUTE-EXT with `c` hops (R77). -/
def routeExtLength (c : Nat) : Nat := (12 + 14 * c + 7) / 8

/-- The payload length right for a frame (R77). -/
def Frame.length : Frame → Nat
  | .brk .. | .hopstat .. | .notice .. => 3
  | .hot .. | .cold .. | .release .. | .accept .. | .refuse .. | .advance .. | .drop ..
  | .laneHold .. | .query .. => 2
  | .route _ _ count _ _ => routeLength count
  | .routeExt _ hops => routeExtLength hops.length
  | .scan .. => 5
  | .report subject _ => if subject.kind = 0 then 9 else 8
  | .clearFault .. | .restart .. => 1

/-! ### The CRC (R76) -/

/-- One bit into the CRC register, generator x^16 + x^12 + x^5 + 1. -/
def crcStep (reg : BitVec 16) (b : Bool) : BitVec 16 :=
  if reg.msb ^^ b then (reg <<< 1) ^^^ 0x1021 else reg <<< 1

/-- The remainder over bits, starting from all ones, with no final inversion. -/
def crcBits (bs : List Bool) : BitVec 16 := bs.foldl crcStep 0xFFFF

/-- The bits a frame's CRC covers: arbitration field, kind, length, payload. -/
def rawBits (f : RawFrame) : List Bool :=
  natBits 2 f.cls.toNat ++ natBits 6 f.sender.toNat ++ natBits 5 f.kind.toNat ++
    natBits 4 f.payload.length ++ bytesBits f.payload

/-- The CRC a station computes as it takes a frame (R75). -/
def rawCrc (f : RawFrame) : BitVec 16 := crcBits (rawBits f)

/-! ### Whole frames -/

/-- The frame as a sender puts it on the line (R76). -/
def Frame.toRaw (sender : Address) (f : Frame) : RawFrame :=
  let body : RawFrame :=
    { cls := BitVec.ofNat 2 f.cls
      sender := BitVec.ofNat 6 sender
      kind := BitVec.ofNat 5 f.code
      payload := bitsBytes f.length f.payloadBits
      crc := 0 }
  { body with crc := rawCrc body }

/-- A handle from bit `off`. -/
def handleAt (bs : List Bool) (off : Nat) : Handle :=
  ⟨Fin.ofNat 64 (field bs off 6), Fin.ofNat 8 (field bs (off + 6) 3)⟩

/-- A target from bit 0. -/
def targetAt (bs : List Bool) : Target :=
  ⟨field bs 0 1 == 1, Fin.ofNat 64 (field bs 1 6)⟩

/-- `n` hops from bit `off`. -/
def hopsAt (bs : List Bool) (off : Nat) : Nat → List Hop
  | 0 => []
  | n + 1 =>
    ⟨Fin.ofNat 64 (field bs off 6), Fin.ofNat 16 (field bs (off + 6) 4),
      Fin.ofNat 16 (field bs (off + 10) 4)⟩ :: hopsAt bs (off + 14) n

/-- A COLD's purpose: a throw field of 15 means all, and the hop number is then ignored (R77). -/
def purposeAt (bs : List Bool) : ColdPurpose :=
  if field bs 12 4 = 15 then .all
  else .step (Fin.ofNat 8 (field bs 9 3)) (Fin.ofNat 16 (field bs 12 4))

/-- The frame that a kind code and payload bits spell, whatever its length; none for an unknown
kind (R77), for a ROUTE-EXT whose count no length is right for, and for a REPORT of subject kind 3. -/
def frameOfBits (kind : Nat) (bs : List Bool) : Option Frame :=
  let h := handleAt bs 0
  match kind with
  | 1 => some (.brk h (BitVec.ofNat 8 (field bs 9 8)) (BitVec.ofNat 5 (field bs 17 5)))
  | 4 => some (.hot h)
  | 5 => some (.cold h (purposeAt bs))
  | 6 => some (.release h (BitVec.ofNat 5 (field bs 9 5)))
  | 7 => some (.accept h)
  | 8 => some (.refuse h (BitVec.ofNat 5 (field bs 9 5)))
  | 9 => some (.hopstat h (BitVec.ofNat 8 (field bs 9 8)) (Status.ofCode (field bs 17 2))
      (BitVec.ofNat 4 (field bs 19 4)) (field bs 23 1 == 1))
  | 12 => some (.route h (Fin.ofNat 8 (field bs 9 3)) (Fin.ofNat 16 (field bs 12 4))
      (field bs 16 1 == 1) (hopsAt bs 17 (min (field bs 12 4) 4)))
  | 13 =>
    if 1 ≤ field bs 9 3 ∧ field bs 9 3 ≤ 4 then some (.routeExt h (hopsAt bs 12 (field bs 9 3)))
    else none
  | 14 => some (.scan h (BitVec.ofNat 12 (field bs 9 12)) (BitVec.ofNat 8 (field bs 21 8))
      (BitVec.ofNat 8 (field bs 29 8)))
  | 15 => some (.advance h)
  | 16 => some (.drop h)
  | 17 => some (.laneHold (targetAt bs) (BitVec.ofNat 8 (field bs 7 8)))
  | 20 => some (.query (targetAt bs) ⟨Fin.ofNat 4 (field bs 7 2), Fin.ofNat 16 (field bs 9 4)⟩)
  | 21 =>
    match field bs 0 2 with
    | 0 => some (.report ⟨0, Fin.ofNat 16 (field bs 2 4)⟩ ((bs.drop 6).take 65))
    | 1 => some (.report ⟨1, Fin.ofNat 16 (field bs 2 4)⟩ ((bs.drop 6).take 52))
    | 2 => some (.report ⟨2, Fin.ofNat 16 (field bs 2 4)⟩ ((bs.drop 6).take 58))
    | _ => none
  | 22 => some (.notice (NoticeKind.ofCode (field bs 0 2))
      (if field bs 2 1 = 1 then some (handleAt bs 3) else none) (BitVec.ofNat 5 (field bs 12 5)))
  | 23 => some (.clearFault (targetAt bs))
  | 24 => some (.restart (targetAt bs))
  | _ => none

/-- The frame a receiver takes from a frame of the line: none if its kind is unknown, its class is
not the kind's or its length is not right for the kind (R80, checks 3, 4 and 5). -/
def Frame.ofRaw (f : RawFrame) : Option Frame :=
  match frameOfBits f.kind.toNat (bytesBits f.payload) with
  | some x => if f.cls.toNat = x.cls ∧ f.payload.length = x.length then some x else none
  | none => none

end Sys2Proof.Machine
end

