-- ==== Sys2Proof/Machine/State.lean ====
section
/-!
DEFINITION. The state of a node, as plain data, and its value right after reset.

A timer that runs holds its time left in units of 100 µs; `none` is a stopped timer. Outputs that
the manual defines as a function of other state (the FAULT output, whether the quench line is
driven, a channel's coil) are computed in Flags.lean and not stored again.
-/

namespace Sys2Proof.Machine

/-- The node states (R164). -/
inductive NodeState where
  | starting | seeding | running | restarting | configFault
  deriving DecidableEq, Repr

/-- Where the start-up loader stands (R165, R166): RESET is low, the image is being read, or the
read has ended. -/
inductive LoaderPhase where
  | held | reading | ended
  deriving DecidableEq, Repr

/-- The CFG SPI port (R166): whether the memory is selected, and the bytes sent to it. -/
structure SpiPort where
  selected : Bool
  sent     : List Byte
  deriving DecidableEq, Repr

/-- The element classes (R1). -/
inductive ElemClass where
  | latching | failsafe | solidState
  deriving DecidableEq, Repr

/-- The element states (section 2.3). -/
inductive ElemState where
  | free | claimed | waiting | moving | verifying | set | live | returning | fault
  deriving DecidableEq, Repr

/-- A sensed throw (R8, R57): a throw, NONE or MULTI. -/
inductive Sensed where
  | throw (t : Throw)
  | noContact
  | multi
  deriving DecidableEq, Repr

/-- A half memory (R3); absent if the element is not cascaded. -/
inductive Half where
  | absent | zero | one | unknown
  deriving DecidableEq, Repr

/-- An element's owner (R6), with the hop number (R98) and the last-hop mark (R140) that are
recorded with it. -/
structure Owner where
  handle     : Handle
  mask       : HopMask
  lane       : Lane
  tentative  : Bool
  claimTimer : Option Nat
  hop        : HopNo
  lastHop    : Bool
  deriving DecidableEq, Repr

/-- An element record in use (section 2.2). A commanded throw of `none` is UNKNOWN. -/
structure Element where
  /-- Class, throw count, cascaded mark, park throw and base wear count, from the image (R1 to R4). -/
  cls       : ElemClass
  throws    : Nat
  cascaded  : Bool
  park      : Option Throw
  baseWear  : Nat
  state     : ElemState
  commanded : Option Throw
  sensed    : Sensed
  half      : Half
  owner     : Option Owner
  target    : Option Throw
  /-- The target is a step target (R67). -/
  stepTarget : Bool
  retry      : Bool
  releaseOnCompletion : Bool
  mismatchRun : Nat
  faultLatch  : Bool
  wear        : Nat
  wearWarning : Bool
  /-- RETURNING with D expired, awaiting its verify read (R58). -/
  verifyDue : Bool
  /-- The active hold output of an F element, if any (R2). -/
  hold      : Option Throw
  deriving DecidableEq, Repr

/-- A pending move (R37); `needsChannel` is marked at the moment of queuing (R38). Arrival order is
the order of the queue. -/
structure MoveEntry where
  elem         : ElemNo
  target       : Throw
  lane         : Lane
  needsChannel : Bool
  deriving DecidableEq, Repr

/-- The service record of a move in service (R25). The channel granted stays named in it until D expires,
also when the channel has left the move at the end of PULSING (R50); nothing reads it then. DESIGN CHOICE
(log entry 27). -/
structure Service where
  elem     : ElemNo
  target   : Throw
  lane     : Lane
  pulses   : Nat
  duration : Nat
  channel  : Option ChannelNo
  left     : Nat
  deriving DecidableEq, Repr

/-- Where a move's pulses stand (R29): the front pulse and the gap of a two-pulse move, or the last
pulse, which is the only one of a one-pulse move. -/
inductive PulsePhase where
  | front | gap | last
  deriving DecidableEq, Repr

/-- A drive channel's state (R39), with the move it carries in PULSING and the time left. -/
inductive Channel where
  | idle
  | pulsing (elem : ElemNo) (target : Throw) (lane : Lane) (pulses : Nat) (phase : PulsePhase)
      (left : Nat)
  | recovering (left : Nat)
  deriving DecidableEq, Repr

/-- The states of an anchor slot (R114). -/
inductive SlotState where
  | idle | collecting | hot | quenching | stepping | held | releasing
  deriving DecidableEq, Repr

/-- What the quench timer's expiry does (R114). -/
inductive Purpose where
  | step | release | resume
  deriving DecidableEq, Repr

/-- A scan record (R136). -/
structure Scan where
  throws       : ThrowSet
  current      : Throw
  dwellReload  : Nat
  dwell        : Nat
  cyclesReload : Nat
  cycles       : Nat
  pending      : Bool
  overrun      : Nat
  ended        : Bool
  deriving DecidableEq, Repr

/-- An anchor slot (R114). Its hop count is the length of its hop list. -/
structure Slot where
  state       : SlotState
  hops        : List Hop
  ready       : HopMask
  timer       : Option Nat
  quenchTimer : Option Nat
  purpose     : Option Purpose
  stepThrow   : Option Throw
  releaseReason : Option Reason
  scan        : Option Scan
  deriving DecidableEq, Repr

/-- The fault record (R155); empty when its kind is absent. -/
structure FaultRecord where
  kind     : Option FaultKind
  location : Option ElemNo
  handle   : Option Handle
  later    : Nat
  deriving DecidableEq, Repr

/-- What a place of the transmit queue holds: a frame whose fields were fixed when it was queued, or
the REPORT, whose content is read later (R85). -/
inductive TxItem where
  | frame (f : Frame)
  | report
  deriving DecidableEq, Repr

/-- A queued frame, whether it is in transmission (R87), and whether a restart that ended while it
was in transmission removes it at the end of its attempt (R162). -/
structure TxEntry where
  item           : TxItem
  inTransmission : Bool
  leaving        : Bool
  deriving DecidableEq, Repr

/-- The attempt under way (R87): none, in the arbitration field, or won and sending a frame. In the
arbitration field of a REPORT it holds the subject of the latest QUERY taken meanwhile, if any: a subject
that can go out only if the attempt wins (R173, log entry 8). -/
inductive TxPhase where
  | quiet
  | arbitrating (query : Option Subject)
  | sending (f : Frame)
  deriving DecidableEq, Repr

/-- A frame of the receive queue with the station that sent it (R81). -/
structure RxFrame where
  sender : Address
  frame  : Frame
  deriving DecidableEq, Repr

/-- An entry of the extension table (R90). Its age is its place: the oldest entry is first. -/
structure ExtEntry where
  sender : Address
  handle : Handle
  hops   : List Hop
  deriving DecidableEq, Repr

/-- How the receiver stands to the line (R73, R79): it does not follow, it waits for 140 bit times of
recessive, or it follows. -/
inductive LineState where
  | notFollowing | seeking | following
  deriving DecidableEq, Repr

/-- What a restart waits for: a BREAK or a RELEASE of its own (R159). -/
inductive Teardown where
  | brk (h : Handle)
  | release (h : Handle)
  deriving DecidableEq, Repr

/-- The restart sequence (R159 to R161): the teardown frames that wait outside the transmit queue,
those queued or adopted and not yet accounted for, and whether the withdrawal step has been. `sent` names the
node's own BREAKs and RELEASEs that left before the restart and are still to be seen: no teardown frames, since
only frames in the transmit queue are adopted (log entry 12). -/
structure RestartSeq where
  waiting     : List Frame
  outstanding : List Teardown
  withdrawn   : Bool
  sent        : List Teardown
  deriving DecidableEq, Repr

/-- The figures of the configuration image in use, after the clamps (R168). -/
structure ImageConfig where
  rotating   : Bool
  quenchTime : Nat
  setupTimeout : Nat
  gateEnable : BitVec 8
  pL : Nat
  sL : Nat
  pF : Nat
  sF : Nat
  sS : Nat
  wearL : Nat
  wearF : Nat
  deriving DecidableEq, Repr

/-- The state of a node. -/
@[ext]
structure State where
  /-- Node state (R164), loader, station address (R166), CFG SPI port, image figures (R168). -/
  nodeState : NodeState
  loader    : LoaderPhase
  address   : Address
  spi       : SpiPort
  config    : ImageConfig
  /-- The element table; `none` is an unconfigured record (R5). -/
  elems     : Vector (Option Element) 16
  /-- The control inputs of the S elements (R1), one set for each place of the table: they are driven while
  RESET is low too, when no record is in use (R165). -/
  controls  : Vector Throw 16
  /-- The drive arbiter (section 4): queue, service records, channels, head of the lane order (R44),
  lane hold mask (R45), and the COILOK input (R51). -/
  moveQueue : List MoveEntry
  services  : List Service
  channels  : Vector Channel 4
  orderHead : Lane
  laneHold  : LaneMask
  coilOk    : Bool
  /-- The scan clock in units, stopped or running (R56), and the group reads made since its origin. -/
  scanClock : Option Nat
  scanReads : Nat
  /-- The line interface (section 6). -/
  lineState : LineState
  txQueue   : List TxEntry
  txPhase   : TxPhase
  rxQueue   : List RxFrame
  extTable  : List ExtEntry
  badFrames : Nat
  txDrops   : Nat
  /-- The subject of the REPORT in the transmit queue, if the report slot holds one (R173). -/
  reportSlot : Option Subject
  /-- The anchor unit: slots (R114) and gate outputs (R115). -/
  slots     : Vector Slot 8
  gateOut   : Vector Bool 8
  /-- The quench monitor: the sensed level (R150), the start-up and restart drive reasons (R151), and
  the handles of the drop-out BREAKs not accounted for, while one of which the break reason holds (R64). -/
  quenchSensed : Bool
  startUpDrive : Bool
  restartDrive : Bool
  breaksOut : List Handle
  /-- The fault record (R155) and the restart sequence (R158). -/
  fault     : FaultRecord
  restart   : Option RestartSeq
  /-- The MODEL's own: how many free values have been read (log entry 8). -/
  freeCount : Nat
  /-- The commands that wait, first in, first out. -/
  pending   : List Instr
  deriving DecidableEq, Repr

/-- Reasons for a stop with a fault: none. No command of this part stops the machine: where the
manual reports an error, the report (the fault record, a frame, a count) is state and the node goes on. -/
inductive Fault where
  deriving DecidableEq, Repr

/-- Reasons for a refusal. -/
inductive Refusal where
  /-- Raised by `exec` for a command that has no meaning yet. No command is so refused. Safe. -/
  | notModelled (mnemonic : String)
  deriving DecidableEq, Repr

/-- An anchor slot in IDLE (R134). -/
def Slot.idle : Slot where
  state := .idle
  hops := []
  ready := 0
  timer := none
  quenchTimer := none
  purpose := none
  stepThrow := none
  releaseReason := none
  scan := none

/-- The empty fault record (R157). -/
def FaultRecord.empty : FaultRecord := ⟨none, none, none, 0⟩

/-- The image figures before an image is accepted: the manual gives none, and a node without an image
reads no figure but the priority mode, which R175 reports as fixed. DESIGN CHOICE (log entry 2). -/
def ImageConfig.blank : ImageConfig where
  rotating := false
  quenchTime := 0
  setupTimeout := 0
  gateEnable := 0
  pL := 0
  sL := 0
  pF := 0
  sF := 0
  sS := 0
  wearL := 0
  wearF := 0

/-- The node while RESET is low (R165), with every block at its cold-start values (R23, R54, R81, R86,
R92, R134, R157). The station address, the image figures, the level of COILOK, and the CFG SPI port with
its memory deselected and nothing sent, are DESIGN CHOICE (log entries 1 to 3 and 28). -/
def State.reset : State where
  nodeState := .starting
  loader := .held
  address := 0
  spi := ⟨false, []⟩
  config := .blank
  elems := Vector.replicate 16 none
  controls := Vector.replicate 16 0
  moveQueue := []
  services := []
  channels := Vector.replicate 4 .idle
  orderHead := 0
  laneHold := 0
  coilOk := false
  scanClock := none
  scanReads := 0
  lineState := .notFollowing
  txQueue := []
  txPhase := .quiet
  rxQueue := []
  extTable := []
  badFrames := 0
  txDrops := 0
  reportSlot := none
  slots := Vector.replicate 8 .idle
  gateOut := Vector.replicate 8 false
  quenchSensed := true
  startUpDrive := true
  restartDrive := false
  breaksOut := []
  fault := .empty
  restart := none
  freeCount := 0
  pending := []

end Sys2Proof.Machine
end

