-- ==== Sys2Proof/Machine/Flags.lean ====
section
/-!
DEFINITION. The conditions and figures the manual computes from the state: sensed values, matches,
wear warnings, pulse counts and durations, readiness, derived outputs.
-/

namespace Sys2Proof.Machine

/-! ### Masks and sets -/

/-- The mask that holds one hop. -/
def hopBit (k : HopNo) : HopMask := BitVec.twoPow 8 k

/-- The mask of hop numbers 0 to n−1. -/
def fullMask (n : Nat) : HopMask := BitVec.ofNat 8 (2 ^ n - 1)

/-- Whether a throw belongs to a throw set. -/
def inSet (S : ThrowSet) (t : Throw) : Bool := S.getLsbD t

/-- The throws 0 to 11, ascending. -/
def setThrows : List Throw := [0, 1, 2, 3, 4, 5, 6, 7, 8, 9, 10, 11]

/-! ### Sensing (R57, R58) -/

/-- The closed contacts among throws 0 to n−1. -/
def closedThrows (n : Nat) (contacts : ThrowSet) : List Throw :=
  setThrows.filter (fun t => decide (t.val < n) && inSet contacts t)

/-- The sensed value of an element of n throws (R57). -/
def sensedOf (n : Nat) (contacts : ThrowSet) : Sensed :=
  match closedThrows n contacts with
  | [] => .noContact
  | [t] => .throw t
  | _ :: _ :: _ => .multi

/-- A sensed value that is a throw number (R8). -/
def Sensed.valid : Sensed → Option Throw
  | .throw t => some t
  | .noContact => none
  | .multi => none

/-- A read matches when the sensed value is the commanded throw; nothing matches UNKNOWN (R58). -/
def Element.readMatches (x : Element) : Bool :=
  match x.commanded with
  | some t => x.sensed == .throw t
  | none => false

/-- Exposed: SET or LIVE (section 2.3). -/
def Element.exposed (x : Element) : Bool :=
  x.state == .set || x.state == .live

/-- The condition of R11 under which a confirmed claim goes straight to SET. -/
def Element.atTarget (x : Element) : Bool :=
  match x.target with
  | some t =>
    x.commanded == some t && x.sensed == .throw t &&
      (x.cls != .failsafe || x.hold == none || x.hold == some t)
  | none => false

/-- The element's owner has this handle. -/
def Element.ownedBy (x : Element) (h : Handle) : Bool :=
  match x.owner with
  | some o => o.handle == h
  | none => false

/-- The element holds a tentative claim for this handle (R10). -/
def Element.claimedFor (x : Element) (h : Handle) : Bool :=
  match x.owner with
  | some o => o.handle == h && o.tentative && x.state == .claimed
  | none => false

/-! ### Half memory (R3) -/

/-- The half of a throw: half 0 is throws 0 to h−1, h being n/2 rounded up. -/
def halfOf (n : Nat) (t : Throw) : Half :=
  if t.val < (n + 1) / 2 then .zero else .one

/-- The half memory that a sensed value gives a cascaded element (R20, R23). -/
def Element.halfFrom (x : Element) (v : Sensed) : Half :=
  if x.cascaded then
    match v.valid with
    | some t => halfOf x.throws t
    | none => .unknown
  else x.half

/-- The half memory after a verify mismatch, the first or the second (R3, R31). -/
def Element.halfUnknown (x : Element) : Half :=
  if x.cascaded then .unknown else x.half

/-! ### Wear (R21, R22) -/

/-- The wear warning that a wear count gives (R22). -/
def warningOf (cfg : ImageConfig) (c : ElemClass) (wear : Nat) : Bool :=
  match c with
  | .latching => cfg.wearL != 0 && decide (Config.wearStep * cfg.wearL ≤ wear)
  | .failsafe => cfg.wearF != 0 && decide (Config.wearStep * cfg.wearF ≤ wear)
  | .solidState => false

/-- An increase of the wear count, saturating, with the warning computed after it (R21, R22). -/
def Element.addWear (cfg : ImageConfig) (k : Nat) (x : Element) : Element :=
  let w := min (x.wear + k) Config.wearMax
  { x with wear := w, wearWarning := warningOf cfg x.cls w }

/-! ### Move timing (R26 to R30) -/

/-- The pulse width of a class (R27); class S has none. -/
def pulseWidth (cfg : ImageConfig) : ElemClass → Nat
  | .latching => cfg.pL
  | .failsafe => cfg.pF
  | .solidState => 0

/-- The settle base of a class (R27). -/
def settleBase (cfg : ImageConfig) : ElemClass → Nat
  | .latching => cfg.sL
  | .failsafe => cfg.sF
  | .solidState => cfg.sS

/-- The pulse count of a move (R26). -/
def Element.pulseCount (x : Element) (target : Throw) : Nat :=
  match x.cls with
  | .solidState => 0
  | .failsafe => if target = 0 then 0 else 1
  | .latching => if x.cascaded && x.half != halfOf x.throws target then 2 else 1

/-- The cascade gap (R28). -/
def cascadeGap (pulses : Nat) : Nat := if pulses = 2 then Config.gapUnits else 0

/-- The move duration D (R28). -/
def moveDuration (cfg : ImageConfig) (x : Element) (pulses : Nat) : Nat :=
  let m := if x.retry then 2 else 1
  max 1 (min Config.durationMax
    (pulses * pulseWidth cfg x.cls + cascadeGap pulses + m * settleBase cfg x.cls))

/-- How long a move's channel is PULSING (R30). -/
def pulsingUnits (cfg : ImageConfig) (c : ElemClass) (pulses : Nat) : Nat :=
  pulses * pulseWidth cfg c + cascadeGap pulses

/-- Whether a move needs a channel (R38). -/
def needsChannel (c : ElemClass) (target : Throw) : Bool :=
  match c with
  | .latching => true
  | .failsafe => decide (target ≠ 0)
  | .solidState => false

/-! ### Lanes (R42, R44, R45) -/

/-- The lane priority order, a rotation of 0 to 7, from its head (R44). -/
def laneOrder (head : Lane) : List Lane :=
  [head, head + 1, head + 2, head + 3, head + 4, head + 5, head + 6, head + 7]

/-- Whether a lane is held (R45). -/
def laneHeld (mask : LaneMask) (k : Lane) : Bool := mask.getLsbD k

/-! ### Derived outputs and figures of the node -/

/-- Frames are taken, checked and queued in these node states (R79). -/
def NodeState.takesFrames : NodeState → Bool
  | .starting | .seeding => false
  | .running | .restarting | .configFault => true

/-- The break drive reason (R64, R151). -/
def State.breakDrive (s : State) : Bool := !s.breaksOut.isEmpty

/-- The node drives the quench line (R151). -/
def State.quenchDriven (s : State) : Bool :=
  s.startUpDrive || s.breakDrive || s.restartDrive

/-- The FAULT output (R155). -/
def State.faultOutput (s : State) : Bool := s.fault.kind.isSome

/-- A channel that is PULSING or RECOVERING (R39). -/
def Channel.busy : Channel → Bool
  | .idle => false
  | .pulsing .. => true
  | .recovering _ => true

/-- A channel that is PULSING. -/
def Channel.isPulsing : Channel → Bool
  | .idle => false
  | .pulsing .. => true
  | .recovering _ => false

/-- A channel that is PULSING for an element. -/
def Channel.pulses (c : Channel) (e : ElemNo) : Bool :=
  match c with
  | .pulsing x _ _ _ _ _ => x == e
  | .idle => false
  | .recovering _ => false

/-- What a channel's coil lines drive (R40): the front selector's coil for a half, the coil of a
throw, or no coil. -/
inductive CoilDrive where
  | none
  | front (elem : ElemNo) (half : Half)
  | throw (elem : ElemNo) (t : Throw)
  deriving DecidableEq, Repr

/-- The coil a channel of the node drives (R40). -/
def State.coilOf (s : State) (c : Channel) : CoilDrive :=
  match c with
  | .idle => .none
  | .recovering _ => .none
  | .pulsing e t _ _ phase _ =>
    match phase with
    | .gap => .none
    | .last => .throw e t
    | .front =>
      match s.elems[e] with
      | some x => .front e (halfOf x.throws t)
      | none => .none

/-- A frame's target addresses this node (R77). -/
def State.addressedBy (s : State) (t : Target) : Bool :=
  t.all || t.address == s.address

/-- The slot's hop count (R114). -/
def Slot.count (sl : Slot) : Nat := sl.hops.length

/-- The slot's ready set holds every hop of its path (R118). -/
def Slot.full (sl : Slot) : Bool := sl.ready == fullMask sl.count

/-- The slot's last hop number (R114). -/
def Slot.lastHop (sl : Slot) : HopNo := Fin.ofNat 8 (sl.count - 1)

/-- The throw the hop list names for the last hop (R137). -/
def Slot.lastThrow (sl : Slot) : Option Throw :=
  sl.hops.getLast?.map (fun hp => hp.throw)

/-- The throw of the step in flight, if a step is in flight (R137). -/
def Slot.inFlight (sl : Slot) : Option Throw :=
  match sl.state with
  | .quenching => if sl.purpose = some .step then sl.stepThrow else none
  | .stepping => sl.lastThrow
  | .idle | .collecting | .hot | .held | .releasing => none

/-- A frame the restart waits for, if the frame is of such a kind (R159). -/
def Frame.teardown : Frame → Option Teardown
  | .brk h _ _ => some (.brk h)
  | .release h _ => some (.release h)
  | _ => none

/-- The class of a queued item; a REPORT is of class 3 (R85). -/
def TxItem.cls : TxItem → Nat
  | .frame f => f.cls
  | .report => 3

/-- A queued BREAK for a handle. -/
def TxEntry.isBreakOf (h : Handle) (e : TxEntry) : Bool :=
  match e.item with
  | .frame (.brk h' _ _) => h' == h
  | _ => false

end Sys2Proof.Machine
end

