-- ==== Sys2Proof/Machine/Operands.lean ====
section
/-!
DEFINITION. Reading and writing the records of the state by number, and finding what a command or a
frame names: elements of a handle, hops of a ROUTE, the frame at the head of the receive queue.
-/

namespace Sys2Proof.Machine

/-- The element numbers, ascending. -/
def allElems : List ElemNo := [0, 1, 2, 3, 4, 5, 6, 7, 8, 9, 10, 11, 12, 13, 14, 15]

/-- The gate numbers, ascending. -/
def allGates : List Gate := [0, 1, 2, 3, 4, 5, 6, 7]

/-- The channels. -/
def allChannels : List ChannelNo := [0, 1, 2, 3]

/-- The elements of a sense group (section 1.7.2). -/
def groupElems (group : Nat) : List ElemNo :=
  if group = 0 then [0, 1, 2, 3, 4, 5, 6, 7] else [8, 9, 10, 11, 12, 13, 14, 15]

/-! ### Records by number -/

/-- An element record; none if it is unconfigured (R5). -/
def State.elem (s : State) (e : ElemNo) : Option Element := s.elems[e]

/-- Write an element record. -/
def State.setElem (s : State) (e : ElemNo) (x : Element) : State :=
  { s with elems := s.elems.set e (some x) }

/-- Change an element record, if it is in use. -/
def State.modElem (s : State) (e : ElemNo) (f : Element → Element) : State :=
  match s.elem e with
  | some x => s.setElem e (f x)
  | none => s

/-- Run a step of each element in turn, ascending. -/
def State.forElems (s : State) (es : List ElemNo) (f : ElemNo → State → State) : State :=
  es.foldl (fun s e => f e s) s

/-- The control inputs of an S element (R1). -/
def State.control (s : State) (e : ElemNo) : Throw := s.controls[e]

/-- An anchor slot. -/
def State.slot (s : State) (g : Gate) : Slot := s.slots[g]

/-- Write an anchor slot. -/
def State.setSlot (s : State) (g : Gate) (sl : Slot) : State :=
  { s with slots := s.slots.set g sl }

/-- A gate output. -/
def State.gate (s : State) (g : Gate) : Bool := s.gateOut[g]

/-- Drive a gate output. -/
def State.setGate (s : State) (g : Gate) (b : Bool) : State :=
  { s with gateOut := s.gateOut.set g b }

/-- A drive channel. -/
def State.channel (s : State) (c : ChannelNo) : Channel := s.channels[c]

/-- Write a drive channel. -/
def State.setChannel (s : State) (c : ChannelNo) (ch : Channel) : State :=
  { s with channels := s.channels.set c ch }

/-- The number of element records in use (R5). -/
def State.elementCount (s : State) : Nat :=
  (allElems.filter (fun e => (s.elem e).isSome)).length

/-! ### Elements of a handle (R6) -/

/-- Some record passes a test. -/
def State.anyElem (s : State) (p : Element → Bool) : Bool :=
  allElems.any (fun e => match s.elem e with
    | some x => p x
    | none => false)

/-- Every record in use passes a test. -/
def State.everyElem (s : State) (p : Element → Bool) : Bool :=
  allElems.all (fun e => match s.elem e with
    | some x => p x
    | none => true)

/-- The owners that the records hold, in ascending element number. -/
def State.owners (s : State) : List Owner :=
  allElems.filterMap (fun e => (s.elem e).bind (fun x => x.owner))

/-- The node holds a handle (R6). -/
def State.holds (s : State) (h : Handle) : Bool := s.anyElem (fun x => x.ownedBy h)

/-- The node's hop mask for a handle it holds (R6): the one recorded with every owner. -/
def State.maskOf (s : State) (h : Handle) : HopMask :=
  match s.owners.find? (fun o => o.handle == h) with
  | some o => o.mask
  | none => 0

/-- Every element the node holds for a handle is SET (R68). -/
def State.allSet (s : State) (h : Handle) : Bool :=
  s.everyElem (fun x => !x.ownedBy h || x.state == .set)

/-- The OR of the wear warnings of the handle's elements (R68). -/
def State.wearOf (s : State) (h : Handle) : Bool :=
  s.anyElem (fun x => x.ownedBy h && x.wearWarning)

/-! ### The arbiter's records (R37, R50) -/

/-- A move is pending for an element. -/
def State.hasEntry (s : State) (e : ElemNo) : Bool := s.moveQueue.any (fun m => m.elem == e)

/-- A move is in service for an element. -/
def State.hasService (s : State) (e : ElemNo) : Bool := s.services.any (fun r => r.elem == e)

/-! ### The hop list of a ROUTE (R94) -/

/-- Hops with their numbers. -/
abbrev HopList := List (HopNo × Hop)

/-- Number a ROUTE's own hops from 0. -/
def ownHops (hops : List Hop) : HopList := [0, 1, 2, 3].zip hops

/-- Number an extension's hops from 4. -/
def extHops (hops : List Hop) : HopList := [4, 5, 6, 7].zip hops

/-- What R94 makes of a ROUTE: its hop list, whether it is well-formed, and the extension table
afterwards. -/
structure Resolved where
  hops       : HopList
  wellFormed : Bool
  table      : List ExtEntry
  deriving DecidableEq, Repr

/-- Resolve a ROUTE from `sender` against the extension table (R91, R94). With a hop count of 0, the extended
flag set and an entry taken, R94's table gives the entry's hops and its sentence an empty hop list: DESIGN
CHOICE, the table (log entry 30). -/
def resolveRoute (table : List ExtEntry) (sender : Address) (h : Handle) (count : Fin 16)
    (extended : Bool) (hops : List Hop) : Resolved :=
  if extended then
    match table.find? (fun x => x.sender == sender) with
    | some x =>
      if x.handle = h then
        { hops := ownHops hops ++ extHops x.hops
          wellFormed := decide (5 ≤ count.val ∧ count.val ≤ 8 ∧ count.val = 4 + x.hops.length)
          table := table.filter (fun y => y.sender != sender) }
      else ⟨ownHops hops, false, table⟩
    | none => ⟨ownHops hops, false, table⟩
  else ⟨ownHops hops, decide (1 ≤ count.val ∧ count.val ≤ 4), table⟩

/-- The hops of a list that name a node. -/
def hopsOf (a : Address) (hops : HopList) : HopList := hops.filter (fun p => p.2.node == a)

/-- The mask of the hop numbers of a list. -/
def hopMaskOf (hops : HopList) : HopMask := hops.foldl (fun m p => m ||| hopBit p.1) 0

/-- Whether two hops of a list name one element. -/
def repeatsElement : HopList → Bool
  | [] => false
  | p :: ps => ps.any (fun q => q.2.element == p.2.element) || repeatsElement ps

/-! ### The head of the receive queue (R81) -/

/-- The frame the node would take next: none in a node state that takes no frames (R79). -/
def State.headFrame (s : State) : Option RxFrame :=
  if s.nodeState.takesFrames then s.rxQueue.head? else none

/-- Remove the frame taken from the queue (R81). -/
def State.popFrame (s : State) : State := { s with rxQueue := s.rxQueue.tail }

end Sys2Proof.Machine
end

