-- ==== Sys2Proof/Machine/Ops.lean ====
section
/-!
DEFINITION. The shared operations: the passing of time, fault capture, the transmit queue, the
arbiter, release processing, the anchor slot and the restart sequence. Every command's meaning is
written over these.
-/

namespace Sys2Proof.Machine

/-! ### Time (log entry 4) -/

/-- `r` units pass for an element's tentative-claim timer. -/
def Element.elapse (r : Nat) (x : Element) : Element :=
  { x with owner := x.owner.map (fun o => { o with claimTimer := o.claimTimer.map (· - r) }) }

/-- `r` units pass for a channel. -/
def Channel.elapse (r : Nat) : Channel → Channel
  | .idle => .idle
  | .pulsing e t k n phase left => .pulsing e t k n phase (left - r)
  | .recovering left => .recovering (left - r)

/-- `r` units pass for a slot's timers. -/
def Slot.elapse (r : Nat) (sl : Slot) : Slot :=
  { sl with timer := sl.timer.map (· - r), quenchTimer := sl.quenchTimer.map (· - r) }

/-- `r` units pass for every timer that runs. A timer at 0 waits for its expiry to be taken. -/
def State.elapse (s : State) (r : Nat) : State :=
  { s with
    elems := s.elems.map (fun x => x.map (Element.elapse r))
    services := s.services.map (fun v => { v with left := v.left - r })
    channels := s.channels.map (Channel.elapse r)
    slots := s.slots.map (Slot.elapse r)
    scanClock := s.scanClock.map (· + r) }

/-! ### The transmit queue and fault capture -/

/-- A frame as it joins the transmit queue. -/
def TxEntry.new (i : TxItem) : TxEntry := ⟨i, false, false⟩

/-- Count a removed or dropped frame (R88). -/
def State.countDrop (s : State) : State :=
  { s with txDrops := min (s.txDrops + 1) Config.countMax }

/-- Count a frame that failed a check (R80). -/
def State.countBad (s : State) : State :=
  { s with badFrames := min (s.badFrames + 1) Config.countMax }

/-- Queue teardown frames that wait outside, in their order, while the queue has room (R159). -/
def State.fillTeardown (s : State) : State :=
  match s.restart with
  | none => s
  | some r =>
    let k := Config.txCapacity - s.txQueue.length
    let now := r.waiting.take k
    { s with
      txQueue := s.txQueue ++ now.map (fun f => TxEntry.new (.frame f))
      restart := some { r with
        waiting := r.waiting.drop k
        outstanding := r.outstanding ++ now.filterMap Frame.teardown } }

/-- Queue a class 3 frame (R88): it finds no frame of a higher class number, so it is dropped and
counted when the queue is full, and the drop captures nothing (R89). -/
def State.enqueueLast (s : State) (i : TxItem) : State :=
  let s := s.fillTeardown
  if s.txQueue.length < Config.txCapacity then { s with txQueue := s.txQueue ++ [TxEntry.new i] }
  else s.countDrop

/-- The fault unit takes a fault (R155). -/
def State.capture (s : State) (k : FaultKind) (loc : Option ElemNo) (h : Option Handle) : State :=
  match s.fault.kind with
  | none =>
    ({ s with fault := ⟨some k, loc, h, 0⟩ }).enqueueLast
      (.frame (.notice .faultCaptured none (BitVec.ofNat 5 k.code)))
  | some _ => { s with fault := { s.fault with later := min (s.fault.later + 1) Config.laterMax } }

/-- A teardown frame is lost, and so accounted for (R83, R89, R160). -/
def RestartSeq.lose (t : Teardown) (r : RestartSeq) : RestartSeq :=
  { r with outstanding := r.outstanding.erase t }

/-- A BREAK or RELEASE of the node's own is seen: a teardown frame, and so accounted for (R160), unless it was
sent before the restart (R159, log entry 12). The receive queue keeps the line's order, so those come first. -/
def RestartSeq.see (t : Teardown) (r : RestartSeq) : RestartSeq :=
  if t ∈ r.sent then { r with sent := r.sent.erase t } else r.lose t

/-- A frame of the node's own is seen, or lost: a drop-out BREAK is accounted for in the break drive
reason (R64), a BREAK or RELEASE in the restart's wait as `account` says (R83, R89, R160). -/
def State.accountOwn (s : State) (account : Teardown → RestartSeq → RestartSeq) (f : Frame) : State :=
  { s with
    breaksOut := match f with
      | .brk h _ reason =>
        if reason = Reason.dropOut.code then s.breaksOut.erase h else s.breaksOut
      | _ => s.breaksOut
    restart := match f.teardown with
      | some t => s.restart.map (account t)
      | none => s.restart }

/-- What follows the removal or drop of a queued frame by R88: the count, and R89. -/
def State.settleLoss (s : State) (i : TxItem) : State :=
  match i with
  | .report => { s.countDrop with reportSlot := none }
  | .frame f =>
    let s := s.countDrop.accountOwn RestartSeq.lose f
    if f.cls ≤ 1 then s.capture .txLost none none else s

/-- The place of the last item that passes a test. -/
def lastIdx {α : Type} (p : α → Bool) : List α → Option Nat
  | [] => none
  | x :: xs =>
    match lastIdx p xs with
    | some i => some (i + 1)
    | none => if p x then some 0 else none

/-- The queued frame that makes room for a frame of class `c` (R88): of the frames not in transmission
with a higher class number, the highest class, and in it the one queued most recently. -/
def victimIdx (q : List TxEntry) (c : Nat) : Option Nat :=
  [3, 2, 1].findSome? (fun k =>
    if c < k then lastIdx (fun e => !e.inTransmission && e.item.cls == k) q else none)

/-- Queue a frame (R86, R88). -/
def State.enqueue (s : State) (f : Frame) : State :=
  let s := s.fillTeardown
  if s.txQueue.length < Config.txCapacity then
    { s with txQueue := s.txQueue ++ [TxEntry.new (.frame f)] }
  else
    match victimIdx s.txQueue f.cls with
    | some i =>
      let lost := match s.txQueue[i]? with
        | some e => e.item
        | none => .frame f
      ({ s with txQueue := s.txQueue.eraseIdx i ++ [TxEntry.new (.frame f)] }).settleLoss lost
    | none => s.settleLoss (.frame f)

/-- Queue a HOPSTAT (R77). -/
def State.hopstat (s : State) (h : Handle) (mask : HopMask) (st : Status) (r : Reason) (wear : Bool) :
    State :=
  s.enqueue (.hopstat h mask st r.code4 wear)

/-! ### The drive arbiter -/

/-- Withdraw an element's pending move (R48). -/
def State.withdraw (s : State) (e : ElemNo) : State :=
  { s with moveQueue := s.moveQueue.filter (fun m => m.elem != e) }

/-- The element side of a move's start (R7, R12, R29, R47); the record of an S element holds nothing
else. -/
def Element.startMove (cfg : ImageConfig) (target : Throw) (x : Element) : Element :=
  let x : Element := { x with
    commanded := some target
    state := if x.state = .waiting then .moving else x.state }
  match x.cls with
  | .solidState => x
  | .failsafe => if target = 0 then ({ x with hold := none }).addWear cfg 1 else x
  | .latching => x

/-- The phase in which a channel begins (R29). -/
def firstPhase (pulses : Nat) : PulsePhase := if pulses = 2 then .front else .last

/-- Start a pending move, on a granted channel or on none (R12, R25): its entry becomes its service
record, an S element's control inputs take the target (R29), and the channel goes to PULSING. -/
def State.startMove (s : State) (m : MoveEntry) (ch : Option ChannelNo) : State :=
  match s.elem m.elem with
  | none => s
  | some x =>
    let n := x.pulseCount m.target
    let d := moveDuration s.config x n
    let s := (s.withdraw m.elem).setElem m.elem (x.startMove s.config m.target)
    let s := { s with
      services := s.services ++ [⟨m.elem, m.target, m.lane, n, d, ch, d⟩]
      controls := if x.cls = .solidState then s.controls.set m.elem m.target else s.controls }
    match ch with
    | some c =>
      s.setChannel c (.pulsing m.elem m.target m.lane n (firstPhase n)
        (pulsingUnits s.config x.cls n))
    | none => s

/-- The move the arbiter grants next (R42): in the highest unheld lane with a channel-needing move, the
earliest in arrival order. -/
def State.grantChoice (s : State) : Option MoveEntry :=
  (laneOrder s.orderHead).findSome? (fun k =>
    if laneHeld s.laneHold k then none
    else s.moveQueue.find? (fun m => m.lane == k && m.needsChannel))

/-- An IDLE channel, if there is one; which of several is used has no effect (R39, log entry 10). -/
def State.idleChannel (s : State) : Option ChannelNo :=
  allChannels.find? (fun c => s.channel c == .idle)

/-- One grant, if the three conditions of R41 hold in a RUNNING node (R49). -/
def State.grantOne (s : State) : State :=
  if s.nodeState = .running ∧ s.coilOk then
    match s.idleChannel, s.grantChoice with
    | some c, some m => s.startMove m (some c)
    | _, _ => s
  else s

/-- The grants made at one instant (R41); each takes one of the four channels. -/
def State.grants (s : State) : State := s.grantOne.grantOne.grantOne.grantOne

/-- Queue a move (R38): it joins at the back, and may start or be granted at that moment (R41, R47). -/
def State.queueMove (s : State) (e : ElemNo) (target : Throw) (lane : Lane) : State :=
  match s.elem e with
  | none => s
  | some x =>
    let m : MoveEntry := ⟨e, target, lane, needsChannel x.cls target⟩
    let s := { s with moveQueue := s.moveQueue ++ [m] }
    if m.needsChannel then s.grants
    else if s.nodeState = .running ∧ laneHeld s.laneHold lane = false then s.startMove m none
    else s

/-- Start every pending move that needs no channel and whose lane is not held (R46, R47). -/
def State.startUnheld (s : State) : State :=
  (s.moveQueue.filter (fun m => !m.needsChannel && !laneHeld s.laneHold m.lane)).foldl
    (fun s m => s.startMove m none) s

/-! ### Element transitions -/

/-- Entry to SET (R9, R13). -/
def Element.toSet (x : Element) : Element :=
  { x with state := .set, target := none, stepTarget := false, retry := false, mismatchRun := 0 }

/-- Entry to FAULT through Stuck or DropOut: the owner is kept and the latch set (R18, R19). -/
def Element.toFault (x : Element) : Element :=
  { x with
    state := .fault, target := none, stepTarget := false, retry := false, mismatchRun := 0
    verifyDue := false, faultLatch := true }

/-- Entry to FREE (R7, R9). -/
def Element.toFree (x : Element) : Element :=
  { x with
    state := .free, owner := none, target := none, stepTarget := false, retry := false
    releaseOnCompletion := false, mismatchRun := 0, verifyDue := false }

/-- Step 1 of release processing (R16). -/
def Element.disown (x : Element) : Element :=
  { x with owner := none, retry := false, releaseOnCompletion := false, mismatchRun := 0 }

/-- Entry to FAULT through release processing, the latch being set (R16, step 2; R18). -/
def Element.toLatched (x : Element) : Element :=
  { x with
    state := .fault, target := none, stepTarget := false, retry := false
    releaseOnCompletion := false, mismatchRun := 0, verifyDue := false }

/-- Entry to RETURNING with a return or park move (R16, steps 3 and 4): the new target clears the retry flag
(R9), and the mismatch run stands as it is. -/
def Element.toReturning (t : Throw) (x : Element) : Element :=
  { x with
    state := .returning, target := some t, stepTarget := false, retry := false
    releaseOnCompletion := false, verifyDue := false }

/-- Where release processing takes an element whose latch is clear (R16, steps 3 and 4): the throw it
returns to, or none for FREE. -/
def Element.releaseTarget (x : Element) : Option Throw :=
  match x.cls with
  | .failsafe => if x.commanded ≠ some 0 ∨ x.hold.isSome then some 0 else none
  | .latching | .solidState =>
    match x.park with
    | some p => if x.commanded ≠ some p then some p else none
    | none => none

/-- Steps 2 to 5 of release processing (R16) of an element whose record is `x`. -/
def State.releaseFromStep2 (s : State) (e : ElemNo) (x : Element) : State :=
  if x.faultLatch then s.setElem e x.toLatched
  else
    match x.releaseTarget with
    | some t => (s.setElem e (x.toReturning t)).queueMove e t 7
    | none => s.setElem e x.toFree

/-- Release processing of an element (R16). -/
def State.release (s : State) (e : ElemNo) : State :=
  match s.elem e with
  | none => s
  | some x => s.releaseFromStep2 e x.disown

/-- A RELEASE, or the restart's release step, acts on one element by its state (R15). A WAITING
element's move has been withdrawn before. -/
def State.releaseSeen (s : State) (e : ElemNo) : State :=
  match s.elem e with
  | none => s
  | some x =>
    match x.state with
    | .claimed => s.setElem e x.toFree
    | .moving => s.setElem e { x with owner := none, releaseOnCompletion := true }
    | .waiting | .verifying | .set | .live | .fault => s.release e
    | .free | .returning => s

/-! ### The anchor slot -/

/-- Queue the slot's RELEASE and enter RELEASING (R123, R128). -/
def State.slotRelease (s : State) (g : Gate) (r : Reason) : State :=
  (s.setSlot g { s.slot g with
    state := .releasing, timer := none, quenchTimer := none, purpose := none, stepThrow := none
    releaseReason := some r }).enqueue (.release ⟨s.address, g⟩ r.code)

/-- Enter QUENCHING with purpose release (R122). -/
def Slot.quenchForRelease (q : Nat) (r : Reason) (sl : Slot) : Slot :=
  { sl with
    state := .quenching, quenchTimer := some q, purpose := some .release, stepThrow := none
    releaseReason := some r }

/-- An ending cause reaches a slot (R120, R126, R127): at once where the gate has not been open, after
the quench time where it is or has been. -/
def State.endPath (s : State) (g : Gate) (r : Reason) : State :=
  let sl := s.slot g
  match sl.state with
  | .idle | .releasing => s
  | .collecting | .stepping => s.slotRelease g r
  | .hot =>
    ((s.setSlot g (sl.quenchForRelease s.config.quenchTime r)).setGate g false).enqueue
      (.cold ⟨s.address, g⟩ .all)
  | .held => s.setSlot g (sl.quenchForRelease s.config.quenchTime r)
  | .quenching =>
    if sl.purpose = some .step then
      s.setSlot g { sl with purpose := some .release, stepThrow := none, releaseReason := some r }
    else s

/-- The next throw of a scan (R144), and whether the step wraps; none only for an empty set. -/
def nextThrow (S : ThrowSet) (c : Throw) : Option (Throw × Bool) :=
  match setThrows.find? (fun t => inSet S t && decide (c < t)) with
  | some t => some (t, false)
  | none => (setThrows.find? (fun t => inSet S t)).map (fun t => (t, true))

/-- A step to `t` is made (R145). -/
def State.makeStep (s : State) (g : Gate) (sc : Scan) (t : Throw) : State :=
  let sl := s.slot g
  if t = sc.current then s.setSlot g { sl with scan := some sc }
  else
    (s.setSlot g { sl with
      state := .quenching, quenchTimer := some s.config.quenchTime, purpose := some .step
      stepThrow := some t, scan := some sc }).setGate g false

/-- A trigger in HOT (R143, R144). -/
def State.triggerHot (s : State) (g : Gate) (sc : Scan) : State :=
  let sl := s.slot g
  if 0 < sc.dwell then s.setSlot g { sl with scan := some { sc with dwell := sc.dwell - 1 } }
  else
    match nextThrow sc.throws sc.current with
    | none => s
    | some (t, wraps) =>
      let counted := wraps && sc.cyclesReload != 0
      if counted && decide (sc.cycles ≤ 1) then
        (s.setSlot g { sl with
          scan := some { sc with cycles := 0, ended := true, pending := false } }).enqueueLast
          (.frame (.notice .scanEnd (some ⟨s.address, g⟩) Reason.done.code))
      else
        s.makeStep g
          { sc with
            dwell := sc.dwellReload
            cycles := if counted then sc.cycles - 1 else sc.cycles } t

/-- A trigger for a slot (R142, R143). -/
def State.trigger (s : State) (g : Gate) : State :=
  match (s.slot g).scan with
  | none => s
  | some sc =>
    if sc.ended then s
    else
      match (s.slot g).state with
      | .hot => s.triggerHot g sc
      | .quenching | .stepping | .held =>
        s.setSlot g { s.slot g with
          scan := some (if sc.pending then { sc with overrun := min (sc.overrun + 1) Config.countMax }
            else { sc with pending := true }) }
      | .collecting | .idle | .releasing => s

/-- The pending trigger, if set, is cleared and taken in HOT (R143). -/
def State.takePending (s : State) (g : Gate) : State :=
  match (s.slot g).scan with
  | some sc =>
    if sc.pending then
      (s.setSlot g { s.slot g with scan := some { sc with pending := false } }).trigger g
    else s
  | none => s

/-- The gate opens, HOT is queued and the slot enters HOT (R115, R118, R153); from STEPPING or HELD a
pending trigger is then taken (R143). -/
def State.openGate (s : State) (g : Gate) : State :=
  let sl := s.slot g
  let s := ((s.setSlot g { sl with
    state := .hot, timer := none, quenchTimer := none, purpose := none }).setGate g true).enqueue
    (.hot ⟨s.address, g⟩)
  if sl.state = .stepping ∨ sl.state = .held then s.takePending g else s

/-- The gate-opening condition is tested (R118). -/
def State.testReady (s : State) (g : Gate) : State :=
  let sl := s.slot g
  if sl.full then
    if s.quenchSensed then s.setSlot g { sl with state := .held, timer := none }
    else s.openGate g
  else s

/-! ### The warm restart -/

/-- Insert a handle and its mask in ascending handle order, once. -/
def insertHandle (h : Handle) (m : HopMask) : List (Handle × HopMask) → List (Handle × HopMask)
  | [] => [(h, m)]
  | p :: ps =>
    if handleKey h < handleKey p.1 then (h, m) :: p :: ps
    else if h = p.1 then p :: ps
    else p :: insertHandle h m ps

/-- The handles the node holds, ascending, each with the node's hop mask (R159). -/
def State.heldHandles (s : State) : List (Handle × HopMask) :=
  s.owners.foldl (fun l o => insertHandle o.handle o.mask l) []

/-- The frames already in the transmit queue that the restart adopts (R159): the drop-out BREAKs, which are
still unaccounted for, and the RELEASEs of RELEASING slots. -/
def State.adopted (s : State) : List Teardown :=
  s.txQueue.filterMap (fun e =>
    match e.item with
    | .frame (.brk h _ reason) => if reason = Reason.dropOut.code then some (.brk h) else none
    | .frame (.release h _) =>
      if (s.slot h.gate).state = .releasing then some (.release h) else none
    | _ => none)

/-- The node's own BREAKs and RELEASEs that stand in the receive queue: sent, and still to be seen. -/
def State.sentUnseen (s : State) : List Teardown :=
  s.rxQueue.filterMap (fun rx => if rx.sender = s.address then rx.frame.teardown else none)

/-- The restart's own BREAKs: for handles held that another node anchors, but for those an adopted BREAK
covers (R159). -/
def State.restartBreaks (s : State) : List Frame :=
  (s.heldHandles.filter (fun p => p.1.anchor != s.address && !s.adopted.contains (.brk p.1))).map
    (fun p => .brk p.1 p.2 Reason.restart.code)

/-- A slot state whose path the restart releases (R159). -/
def SlotState.tornDown : SlotState → Bool
  | .collecting | .hot | .quenching | .stepping | .held => true
  | .idle | .releasing => false

/-- The restart's own RELEASEs, in ascending gate order (R159). -/
def State.restartReleases (s : State) : List Frame :=
  (allGates.filter (fun g => (s.slot g).state.tornDown)).map
    (fun g => .release ⟨s.address, g⟩ Reason.restart.code)

/-- Stop a slot's timers; the purpose is absent while the quench timer is stopped (R114, R134). -/
def Slot.stopTimers (sl : Slot) : Slot :=
  { sl with timer := none, quenchTimer := none, purpose := none, stepThrow := none }

/-- A warm restart begins (R158, R159). -/
def State.beginRestart (s : State) : State :=
  ({ s with
    nodeState := .restarting
    restartDrive := true
    gateOut := Vector.replicate 8 false
    slots := s.slots.map Slot.stopTimers
    restart := some
      { waiting := s.restartBreaks ++ s.restartReleases
        outstanding := s.adopted
        withdrawn := false
        sent := s.sentUnseen } }).fillTeardown

/-! ### Receiving -/

/-- A good frame completes: it joins the receive queue (R81), or is lost to a full one (R82, R83). -/
def State.receive (s : State) (rx : RxFrame) : State :=
  if s.rxQueue.length < Config.rxCapacity then { s with rxQueue := s.rxQueue ++ [rx] }
  else
    let s := if rx.sender = s.address then s.accountOwn RestartSeq.lose rx.frame else s
    let s := s.capture .rxOverrun none none
    if s.nodeState = .running then s.beginRestart else s

end Sys2Proof.Machine
end

