-- ==== Sys2Proof/Machine/Report.lean ====
section
/-!
DEFINITION. The content of a REPORT, read from the state (R174 to R176), in the layout of R78.
-/

namespace Sys2Proof.Machine

/-- A subject as a REPORT codes it (R78): the index of a node subject is 0, whatever its QUERY carried (R172). -/
def Subject.coded (u : Subject) : Subject := if u.kind = 0 then ⟨0, 0⟩ else u

/-- The node state codes (R78). -/
def NodeState.code : NodeState → Nat
  | .starting => 0
  | .seeding => 1
  | .running => 2
  | .restarting => 3
  | .configFault => 4

/-- The element state codes (R78). -/
def ElemState.code : ElemState → Nat
  | .free => 0
  | .claimed => 1
  | .waiting => 2
  | .moving => 3
  | .verifying => 4
  | .set => 5
  | .live => 6
  | .returning => 7
  | .fault => 8

/-- The slot state codes (R78). -/
def SlotState.code : SlotState → Nat
  | .idle => 0
  | .collecting => 1
  | .hot => 2
  | .quenching => 3
  | .stepping => 4
  | .held => 5
  | .releasing => 6

/-- A commanded throw's code: 15 is UNKNOWN (R78). -/
def commandedCode : Option Throw → Nat
  | some t => t
  | none => 15

/-- A sensed throw's code: 14 is NONE, 15 is MULTI (R78). -/
def Sensed.code : Sensed → Nat
  | .throw t => t
  | .noContact => 14
  | .multi => 15

/-- A half memory's code (R78). -/
def Half.code : Half → Nat
  | .zero => 0
  | .one => 1
  | .unknown => 2
  | .absent => 3

/-- A present bit and a handle, whose 9 bits are 0 when it is absent: stated for an owner (R176) and for an empty
fault record (R175), and DEDUCED for a fault without handle (log entry 31). -/
def optHandleBits : Option Handle → List Bool
  | some h => true :: handleBits h
  | none => natBits 10 0

/-- The fault location: its kind and index (R78). DEDUCED (log entry 31): the 4 bits of the index of an absent
location are 0 beside a fault too, where the manual gives 0 for an empty record only. -/
def locationBits : Option ElemNo → List Bool
  | some e => natBits 2 1 ++ natBits 4 e
  | none => natBits 6 0

/-- The number of channels not IDLE (R39). -/
def State.busyChannels (s : State) : Nat :=
  (allChannels.filter (fun c => (s.channel c).busy)).length

/-- The content of a node report (R175). -/
def State.nodeReport (s : State) : List Bool :=
  natBits 3 s.nodeState.code ++
    natBits 3 (match s.fault.kind with
      | some k => k.code
      | none => 0) ++
    locationBits s.fault.location ++ optHandleBits s.fault.handle ++ natBits 4 s.fault.later ++
    natBits 8 s.badFrames ++ natBits 8 s.txDrops ++ natBits 8 s.laneHold.toNat ++
    [s.config.rotating] ++ natBits 3 (if s.config.rotating then s.orderHead.val else 0) ++
    natBits 5 s.moveQueue.length ++ natBits 3 s.busyChannels ++
    [s.coilOk, s.quenchSensed, s.quenchDriven]

/-- The content of an element report (R176). -/
def Element.reportBits (x : Element) : List Bool :=
  natBits 4 x.state.code ++ natBits 4 (commandedCode x.commanded) ++ natBits 4 x.sensed.code ++
    natBits 2 x.half.code ++ optHandleBits (x.owner.map (fun o => o.handle)) ++
    [(match x.owner with
      | some o => o.tentative
      | none => false), x.retry] ++
    natBits 24 x.wear ++ [x.wearWarning, x.faultLatch]

/-- The scan fields of a gate report; 0 when the record is absent (R176). -/
def scanBits : Option Scan → List Bool
  | some sc =>
    true :: (natBits 12 sc.throws.toNat ++ natBits 4 sc.current ++ natBits 8 sc.dwell ++
      natBits 8 sc.cycles ++ [sc.pending] ++ natBits 8 sc.overrun ++ [sc.ended])
  | none => natBits 43 0

/-- The content of a gate report (R176). -/
def Slot.reportBits (sl : Slot) : List Bool :=
  natBits 3 sl.state.code ++ natBits 4 sl.count ++ natBits 8 sl.ready.toNat ++ scanBits sl.scan

/-- The content of a REPORT of a subject at this instant (R174). -/
def State.reportContent (s : State) (u : Subject) : List Bool :=
  if u.kind = 0 then s.nodeReport
  else if u.kind = 1 then
    match s.elem u.index with
    | some x => x.reportBits
    | none => natBits 52 0
  else (s.slot (Fin.ofNat 8 u.index)).reportBits

/-- Whether the node can answer a QUERY of a subject (R172). -/
def State.answers (s : State) (u : Subject) : Bool :=
  if u.kind = 0 then true
  else if u.kind = 1 then s.nodeState == .running && (s.elem u.index).isSome
  else if u.kind = 2 then decide (u.index.val < 8)
  else false

end Sys2Proof.Machine
end

