-- ==== Sys2Proof/Machine/Line.lean ====
section
/-!
DEFINITION. The line interface: LINE_IDLE_RESYNC, TX_ATTEMPT_START, ARBITRATION_LOST,
ARBITRATION_WON, FRAME_END and OVER_LONG_FRAME (section 6).
-/

namespace Sys2Proof.Machine

/-- LINE_IDLE_RESYNC (R73): a station that waits for 140 bit times of recessive has read them. -/
def execLineIdleResync (s : State) : Host.Outcome State Fault Refusal :=
  if s.lineState = .seeking then .next { s with lineState := .following } else .next s

/-- The place of the frame an attempt offers (R86): the head of the most urgent class present. -/
def headIdx (q : List TxEntry) : Option Nat :=
  [0, 1, 2, 3].findSome? (fun c => q.findIdx? (fun e => e.item.cls == c))

/-- Mark the entry at a place as in transmission (R87). -/
def markIdx (i : Nat) (q : List TxEntry) : List TxEntry :=
  q.modify i (fun e => { e with inTransmission := true })

/-- TX_ATTEMPT_START (R73, R86): a station that follows the line and has a frame begins an attempt. -/
def execTxAttemptStart (s : State) : Host.Outcome State Fault Refusal :=
  if s.lineState = .following ∧ s.nodeState.takesFrames ∧ s.txPhase = .quiet then
    match headIdx s.txQueue with
    | some i => .next { s with txQueue := markIdx i s.txQueue, txPhase := .arbitrating none }
    | none => .next s
  else .next s

/-- The entry in transmission. -/
def State.offered (s : State) : Option TxEntry := s.txQueue.find? (fun e => e.inTransmission)

/-- The attempt ends and its frame leaves the queue (R87, R162); a REPORT empties the report slot
(R173). -/
def State.leaveQueue (s : State) : State :=
  { s with
    txQueue := s.txQueue.filter (fun e => !e.inTransmission)
    txPhase := .quiet
    reportSlot := if s.txQueue.any (fun e => e.inTransmission && e.item == .report) then none
      else s.reportSlot }

/-- The attempt ends and its frame keeps its place (R87), unless a restart has removed it (R162). -/
def State.keepPlace (s : State) : State :=
  if s.txQueue.any (fun e => e.inTransmission && e.leaving) then s.leaveQueue
  else
    { s with
      txQueue := s.txQueue.map (fun e => { e with inTransmission := false })
      txPhase := .quiet }

/-- ARBITRATION_LOST (R74, R87). A QUERY taken during the arbitration has had no effect: a REPORT goes out
later with its old subject (R173). -/
def execArbitrationLost (s : State) : Host.Outcome State Fault Refusal :=
  match s.txPhase with
  | .arbitrating _ => .next s.keepPlace
  | .quiet | .sending _ => .next s

/-- The subject with which a winning REPORT of subject `u` goes out (R173): that of a QUERY taken during its
arbitration or its own, a free value (log entry 8). -/
def State.subjectSent (s : State) (query : Option Subject) (u : Subject) : Subject :=
  match query with
  | none => u
  | some v => if Config.queryReplaces s.freeCount then v else u

/-- The REPORT goes on the line: subject and content are read now (R174), the subject coded as R78 gives. The
report slot keeps its subject, with which the REPORT goes out later if this attempt is flagged (R173). -/
def State.sendReport (s : State) (query : Option Subject) : State :=
  match s.reportSlot with
  | some u =>
    let v := s.subjectSent query u
    { s with
      freeCount := if query.isSome then s.freeCount + 1 else s.freeCount
      txPhase := .sending (.report v.coded (s.reportContent v)) }
  | none => s

/-- The attempt in the arbitration field wins (R74, R174), and the frame it offers goes on the line. -/
def State.winAttempt (s : State) (query : Option Subject) : State :=
  match s.offered with
  | some e =>
    match e.item with
    | .frame f => { s with txPhase := .sending f }
    | .report => s.sendReport query
  | none => s

/-- ARBITRATION_WON (R74, R174). -/
def execArbitrationWon (s : State) : Host.Outcome State Fault Refusal :=
  match s.txPhase with
  | .arbitrating query => .next (s.winAttempt query)
  | .quiet | .sending _ => .next s

/-- The node is following the line and checks frames (R79). -/
def State.listens (s : State) : Bool :=
  s.lineState == .following && s.nodeState.takesFrames

/-- The length field is above 12 (R80, check 1): counted, and the receiver has lost its place. -/
def State.overLong (s : State) : State := { s.countBad with lineState := .seeking }

/-- Another station's frame completes: the checks of R80 in their order, the first a CRC mismatch here
or at another station (R75). -/
def State.frameCompletes (s : State) (f : RawFrame) (flagged : Bool) : State :=
  if Config.payloadMax < f.payload.length then s.overLong
  else if flagged || f.crc != rawCrc f then s.countBad
  else
    match Frame.ofRaw f with
    | some x => s.receive ⟨f.sender.toFin, x⟩
    | none => s.countBad

/-- The node's own frame completes (R75, R87): unflagged it is removed as sent and joins the receive
queue like any other (R81). -/
def State.ownCompletes (s : State) (f : Frame) (flagged : Bool) : State :=
  if flagged then s.keepPlace.countBad else s.leaveQueue.receive ⟨s.address, f⟩

/-- FRAME_END. The node's own frame ends only while it sends one; another station's only while it has no
attempt under way and follows the line. -/
def execFrameEnd (frame : Option RawFrame) (flagged : Bool) (s : State) :
    Host.Outcome State Fault Refusal :=
  match frame, s.txPhase with
  | none, .sending f => .next (s.ownCompletes f flagged)
  | some f, .quiet => if s.listens then .next (s.frameCompletes f flagged) else .next s
  | _, _ => .next s

/-- OVER_LONG_FRAME (R80). -/
def execOverLongFrame (s : State) : Host.Outcome State Fault Refusal :=
  if s.listens && s.txPhase == .quiet then .next s.overLong else .next s

end Sys2Proof.Machine
end

