-- ==== Sys2Proof/Machine/Moves.lean ====
section
/-!
DEFINITION. The events of a started move and of the channels: MOVE_D_EXPIRES,
CASCADE_FRONT_PULSE_END, CASCADE_GAP_END, PULSING_END, CHANNEL_RECOVERY_END, COILOK_RISE and
COILOK_FALL (sections 3 and 4).
-/

namespace Sys2Proof.Machine

/-- What the expiry of D does to the element (R32); a MOVING element that a RELEASE reached takes release
processing from its step 2 (R15). -/
def State.moveEnded (s : State) (e : ElemNo) : State :=
  match s.elem e with
  | none => s
  | some x =>
    match x.state with
    | .moving =>
      if x.releaseOnCompletion then s.releaseFromStep2 e x
      else s.setElem e { x with state := .verifying }
    | .returning => s.setElem e { x with verifyDue := true }
    | .free | .claimed | .waiting | .verifying | .set | .live | .fault => s

/-- D of the move in service `v` expires: the time still to run passes, the service record goes (R32,
R50). -/
def State.expireMove (s : State) (v : Service) : State :=
  let s := s.elapse v.left
  ({ s with services := s.services.filter (fun r => r.elem != v.elem) }).moveEnded v.elem

/-- MOVE_D_EXPIRES: the event takes place only for a move in service whose pulses have ended (R28,
R32). -/
def execMoveDExpires (e : ElemNo) (s : State) : Host.Outcome State Fault Refusal :=
  match s.services.find? (fun v => v.elem == e) with
  | some v =>
    if allChannels.any (fun c => (s.channel c).pulses e) then .next s else .next (s.expireMove v)
  | none => .next s

/-- CASCADE_FRONT_PULSE_END (R29): the front pulse ends and the gap begins. -/
def execCascadeFrontPulseEnd (ch : ChannelNo) (s : State) : Host.Outcome State Fault Refusal :=
  match s.channel ch with
  | .pulsing e t k n .front left =>
    let rest := s.config.pL + Config.gapUnits
    .next ((s.elapse (left - rest)).setChannel ch (.pulsing e t k n .gap (min left rest)))
  | _ => .next s

/-- CASCADE_GAP_END (R29): the rear pulse begins on the coil of the target throw. -/
def execCascadeGapEnd (ch : ChannelNo) (s : State) : Host.Outcome State Fault Refusal :=
  match s.channel ch with
  | .pulsing e t k n .gap left =>
    let rest := s.config.pL
    .next ((s.elapse (left - rest)).setChannel ch (.pulsing e t k n .last (min left rest)))
  | _ => .next s

/-- What the end of a move's pulses does to the element (R29, R31, R53): the half memory, the hold and
the wear. -/
def Element.pulsesEnded (cfg : ImageConfig) (target : Throw) (pulses : Nat) (x : Element) : Element :=
  match x.cls with
  | .latching =>
    ({ x with half := if x.cascaded then halfOf x.throws target else x.half }).addWear cfg pulses
  | .failsafe => ({ x with hold := some target }).addWear cfg 1
  | .solidState => x

/-- A channel's PULSING ends (R30, R39), and in rotating mode the lane of its move becomes lowest
(R44), in RESTARTING too (log entry 29). The move's service record keeps the channel's number, which nothing
reads from then on (R50, log entry 27). -/
def State.endPulsing (s : State) (ch : ChannelNo) (e : ElemNo) (t : Throw) (k : Lane) (n : Nat) :
    State :=
  let s := s.modElem e (Element.pulsesEnded s.config t n)
  let s := s.setChannel ch (.recovering Config.recoveryUnits)
  if s.config.rotating then { s with orderHead := k + 1 } else s

/-- PULSING_END. -/
def execPulsingEnd (ch : ChannelNo) (s : State) : Host.Outcome State Fault Refusal :=
  match s.channel ch with
  | .pulsing e t k n .last left => .next ((s.elapse left).endPulsing ch e t k n)
  | _ => .next s

/-- CHANNEL_RECOVERY_END (R39): the channel is IDLE and grants are made (R41). -/
def execChannelRecoveryEnd (ch : ChannelNo) (s : State) : Host.Outcome State Fault Refusal :=
  match s.channel ch with
  | .recovering left => .next ((s.elapse left).setChannel ch .idle).grants
  | _ => .next s

/-- COILOK_RISE (R51): pending moves may be granted (R41). -/
def execCoilokRise (s : State) : Host.Outcome State Fault Refusal :=
  .next ({ s with coilOk := true }).grants

/-- COILOK_FALL (R52): SupplyLost is captured once if a channel is PULSING. A fall is from high. -/
def execCoilokFall (s : State) : Host.Outcome State Fault Refusal :=
  if s.coilOk then
    let s := { s with coilOk := false }
    .next (if allChannels.any (fun c => (s.channel c).isPulsing) then s.capture .supplyLost none none
      else s)
  else .next s

end Sys2Proof.Machine
end

