-- ==== Sys2Proof/Machine/Timers.lean ====
section
/-!
DEFINITION. Timer expiries, triggers and the sensed quench line: TENTATIVE_CLAIM_TIMER_EXPIRY,
SETUP_STEP_TIMER_EXPIRY, QUENCH_TIMER_EXPIRY_RELEASE, QUENCH_TIMER_EXPIRY_STEP, RESUME_TIMER_EXPIRY,
TRIGGER_EDGE, QUENCH_ASSERTION_SENSED and QUENCH_RELEASE_SENSED (sections 7.4, 8, 9.4 and 10.2).

An expiry takes place only for a timer that runs; its time left then passes (log entry 4).
-/

namespace Sys2Proof.Machine

/-- The time left on the tentative claims for a handle, if the node holds any (R104). -/
def State.claimLeft (s : State) (h : Handle) : Option Nat :=
  allElems.findSome? (fun e =>
    (s.elem e).bind (fun x => if x.claimedFor h then x.owner.bind (·.claimTimer) else none))

/-- The tentative claims for a handle are dropped (R11): owner and target absent, FREE. -/
def State.dropClaims (s : State) (h : Handle) : State :=
  s.forElems allElems (fun e s =>
    s.modElem e (fun x => if x.claimedFor h then x.toFree else x))

/-- The expiry of the claims for a handle (R104): in RUNNING one HOPSTAT Refused with NoAnchor. -/
def State.expireClaims (s : State) (h : Handle) : State :=
  let mask := s.maskOf h
  let s := s.dropClaims h
  if s.nodeState = .running then s.hopstat h mask .refused .noAnchor false else s

/-- TENTATIVE_CLAIM_TIMER_EXPIRY. -/
def execTentativeClaimTimerExpiry (h : Handle) (s : State) : Host.Outcome State Fault Refusal :=
  match s.claimLeft h with
  | some left => .next ((s.elapse left).expireClaims h)
  | none => .next s

/-- SETUP_STEP_TIMER_EXPIRY (R119): the timer runs in COLLECTING and STEPPING only, and a slot acts on
timers in RUNNING only (R134). -/
def execSetupStepTimerExpiry (g : Gate) (s : State) : Host.Outcome State Fault Refusal :=
  match s.nodeState, (s.slot g).timer, (s.slot g).state with
  | .running, some left, .collecting => .next ((s.elapse left).slotRelease g .setupTimeout)
  | .running, some left, .stepping => .next ((s.elapse left).slotRelease g .stepTimeout)
  | _, _, _ => .next s

/-- QUENCH_TIMER_EXPIRY_RELEASE (R123): in QUENCHING with purpose release. -/
def execQuenchTimerExpiryRelease (g : Gate) (s : State) : Host.Outcome State Fault Refusal :=
  let sl := s.slot g
  match s.nodeState, sl.quenchTimer, sl.state, sl.purpose with
  | .running, some left, .quenching, some .release =>
    .next ((s.elapse left).slotRelease g (sl.releaseReason.getD .none))
  | _, _, _, _ => .next s

/-- The hop list with a new throw for its last hop (R137). -/
def setLastThrow (t : Throw) : List Hop → List Hop
  | [] => []
  | [h] => [{ h with throw := t }]
  | h :: h' :: hs => h :: setLastThrow t (h' :: hs)

/-- The slot after its step's quench time (R124, R137). -/
def Slot.enterStepping (setup : Nat) (t : Throw) (sl : Slot) : Slot :=
  { sl with
    state := .stepping
    hops := setLastThrow t sl.hops
    ready := sl.ready &&& ~~~(hopBit sl.lastHop)
    timer := some (setup * Config.setupUnits)
    quenchTimer := none
    purpose := none
    stepThrow := none }

/-- The step's quench time has run out: COLD step is queued and the slot enters STEPPING (R124). -/
def State.stepCold (s : State) (g : Gate) (t : Throw) : State :=
  let sl := s.slot g
  (s.setSlot g (sl.enterStepping s.config.setupTimeout t)).enqueue
    (.cold ⟨s.address, g⟩ (.step sl.lastHop t))

/-- QUENCH_TIMER_EXPIRY_STEP (R124): in QUENCHING with purpose step. -/
def execQuenchTimerExpiryStep (g : Gate) (s : State) : Host.Outcome State Fault Refusal :=
  let sl := s.slot g
  match s.nodeState, sl.quenchTimer, sl.state, sl.purpose, sl.stepThrow with
  | .running, some left, .quenching, some .step, some t => .next ((s.elapse left).stepCold g t)
  | _, _, _, _, _ => .next s

/-- RESUME_TIMER_EXPIRY (R153): of a HELD slot. -/
def execResumeTimerExpiry (g : Gate) (s : State) : Host.Outcome State Fault Refusal :=
  let sl := s.slot g
  match s.nodeState, sl.quenchTimer, sl.state, sl.purpose with
  | .running, some left, .held, some .resume => .next ((s.elapse left).openGate g)
  | _, _, _, _ => .next s

/-- TRIGGER_EDGE (R142): a trigger acts only while the node is RUNNING. -/
def execTriggerEdge (g : Gate) (s : State) : Host.Outcome State Fault Refusal :=
  if s.nodeState = .running then .next (s.trigger g) else .next s

/-- What assertion sensed does to one slot (R152). -/
def State.slotAsserted (g : Gate) (s : State) : State :=
  let sl := s.slot g
  match sl.state with
  | .hot =>
    ((s.setSlot g { sl with state := .held, quenchTimer := none, purpose := none }).setGate g
      false).enqueue (.cold ⟨s.address, g⟩ .all)
  | .held => s.setSlot g { sl with quenchTimer := none, purpose := none }
  | .idle | .collecting | .quenching | .stepping | .releasing => s

/-- Run a step of each slot in turn, ascending. -/
def State.forSlots (s : State) (f : Gate → State → State) : State :=
  allGates.foldl (fun s g => f g s) s

/-- QUENCH_ASSERTION_SENSED (R150, R152): the line goes from released to asserted. -/
def execQuenchAssertionSensed (s : State) : Host.Outcome State Fault Refusal :=
  if s.quenchSensed then .next s
  else
    let s := { s with quenchSensed := true }
    .next (if s.nodeState = .running then s.forSlots State.slotAsserted else s)

/-- What release sensed does to one slot (R153). -/
def Slot.startResume (q : Nat) (sl : Slot) : Slot :=
  if sl.state = .held then { sl with quenchTimer := some q, purpose := some .resume } else sl

/-- QUENCH_RELEASE_SENSED (R150, R153): the line goes from asserted to released, which it cannot while
this node drives it. -/
def execQuenchReleaseSensed (s : State) : Host.Outcome State Fault Refusal :=
  if s.quenchSensed && !s.quenchDriven then
    let s := { s with quenchSensed := false }
    .next (if s.nodeState = .running then
        { s with slots := s.slots.map (Slot.startResume s.config.quenchTime) }
      else s)
  else .next s

end Sys2Proof.Machine
end

