-- ==== Sys2Proof/Machine/Route.lean ====
section
/-!
DEFINITION. The setup frames: FRAME_SEEN_ROUTE, FRAME_SEEN_ROUTE_EXT, FRAME_SEEN_ACCEPT and
FRAME_SEEN_REFUSE (section 7).

A FRAME_SEEN command takes the frame at the head of the receive queue (R81); it is no event where that
frame is of another kind.
-/

namespace Sys2Proof.Machine

/-! ### FRAME_SEEN_ROUTE -/

/-- Anchor validation (R99): the reason of the first check that fails. -/
def State.anchorReason (s : State) (g : Gate) (wellFormed : Bool) : Option Reason :=
  if s.config.gateEnable.getLsbD g = false then some .gateDisabled
  else if (s.slot g).state ≠ .idle then some .gateBusy
  else if wellFormed = false then some .malformed
  else none

/-- The slot records the path (R101). -/
def Slot.collect (setup : Nat) (hops : List Hop) : Slot :=
  { Slot.idle with state := .collecting, hops := hops, timer := some (setup * Config.setupUnits) }

/-- The anchor role of a ROUTE (R95, R99 to R101). -/
def State.anchorRole (s : State) (h : Handle) (r : Resolved) : State :=
  match s.nodeState with
  | .running =>
    match s.anchorReason h.gate r.wellFormed with
    | some reason => s.enqueue (.refuse h reason.code)
    | none =>
      (s.setSlot h.gate (Slot.collect s.config.setupTimeout (r.hops.map (·.2)))).enqueue (.accept h)
  | .restarting | .configFault => s.enqueue (.refuse h Reason.notRunning.code)
  | .starting | .seeding => s

/-- Some hop of the node's names a record that passes a test. -/
def State.anyHop (s : State) (mine : HopList) (p : Hop → Option Element → Bool) : Bool :=
  mine.any (fun q => p q.2 (s.elem q.2.element))

/-- Hop validation (R96): the reason of the first check that fails for any of the node's hops. -/
def State.hopReason (s : State) (h : Handle) (wellFormed : Bool) (mine : HopList) : Option Reason :=
  if wellFormed = false ∨ repeatsElement mine ∨ s.anyHop mine (fun hp _ => decide (12 ≤ hp.throw.val))
  then some .malformed
  else if s.anyHop mine (fun _ x => x.isNone) then some .noSuchElement
  else if s.anyHop mine (fun hp x => x.any (fun x => decide (x.throws ≤ hp.throw.val)))
  then some .badThrow
  else if s.holds h then some .handleBusy
  else if s.anyHop mine (fun _ x => x.any (fun x => x.state == .fault)) then some .faulted
  else if s.anyHop mine (fun _ x => x.any (fun x => x.state != .free)) then some .busy
  else none

/-- The claim of an element (R10, R98, R140). -/
def Element.claim (o : Owner) (t : Throw) (x : Element) : Element :=
  { x with state := .claimed, owner := some o, target := some t, stepTarget := false }

/-- The owner that a claim for hop `k` records, of a path of `count` hops. -/
def claimOwner (h : Handle) (lane : Lane) (mask : HopMask) (count : Nat) (k : HopNo) : Owner where
  handle := h
  mask := mask
  lane := lane
  tentative := true
  claimTimer := some Config.claimUnits
  hop := k
  lastHop := decide (k.val + 1 = count)

/-- All the node's hops are claimed (R98). -/
def State.claimHops (s : State) (h : Handle) (lane : Lane) (count : Nat) (mine : HopList) : State :=
  mine.foldl (fun s p =>
    s.modElem p.2.element
      (Element.claim (claimOwner h lane (hopMaskOf mine) count p.1) p.2.throw)) s

/-- The hop role of a ROUTE (R95 to R98). -/
def State.hopRole (s : State) (h : Handle) (lane : Lane) (r : Resolved) (mine : HopList) : State :=
  match s.nodeState with
  | .running =>
    match s.hopReason h r.wellFormed mine with
    | some reason => s.hopstat h (hopMaskOf mine) .refused reason false
    | none => s.claimHops h lane r.hops.length mine
  | .restarting | .configFault => s.hopstat h (hopMaskOf mine) .refused .notRunning false
  | .starting | .seeding => s

/-- A ROUTE is taken (R94, R95). -/
def State.seeRoute (s : State) (sender : Address) (h : Handle) (lane : Lane) (count : Fin 16)
    (extended : Bool) (hops : List Hop) : State :=
  let r := resolveRoute s.extTable sender h count extended hops
  let s := { s with extTable := r.table }
  let s := if h.anchor = s.address then s.anchorRole h r else s
  let mine := hopsOf s.address r.hops
  if mine.isEmpty then s else s.hopRole h lane r mine

/-- FRAME_SEEN_ROUTE. -/
def execFrameSeenRoute (s : State) : Host.Outcome State Fault Refusal :=
  match s.headFrame with
  | some ⟨sender, .route h lane count extended hops⟩ =>
    .next (s.popFrame.seeRoute sender h lane count extended hops)
  | _ => .next s

/-! ### FRAME_SEEN_ROUTE_EXT -/

/-- File an extension (R90): the sender's old entry goes, or the oldest where four others stand, and
the new entry is the newest. -/
def fileExtension (table : List ExtEntry) (x : ExtEntry) : List ExtEntry :=
  let others := table.filter (fun y => y.sender != x.sender)
  (if others.length < Config.extCapacity then others else others.drop 1) ++ [x]

/-- FRAME_SEEN_ROUTE_EXT. -/
def execFrameSeenRouteExt (s : State) : Host.Outcome State Fault Refusal :=
  match s.headFrame with
  | some ⟨sender, .routeExt h hops⟩ =>
    .next { s.popFrame with extTable := fileExtension s.extTable ⟨sender, h, hops⟩ }
  | _ => .next s

/-! ### FRAME_SEEN_ACCEPT -/

/-- The owner of a confirmed claim (R11). -/
def Owner.confirm (o : Owner) : Owner := { o with tentative := false, claimTimer := none }

/-- One element's tentative claim for `h` is confirmed (R11, R102). -/
def State.confirm (h : Handle) (e : ElemNo) (s : State) : State :=
  match s.elem e with
  | none => s
  | some x =>
    if x.claimedFor h then
      let y : Element := { x with owner := x.owner.map Owner.confirm }
      if x.atTarget then s.setElem e y.toSet
      else
        let s := s.setElem e { y with state := .waiting, retry := false }
        match x.target, x.owner with
        | some t, some o => s.queueMove e t o.lane
        | _, _ => s
    else s

/-- Every tentative claim for `h` is confirmed; if that took an element to SET, readiness is tested once
(R68, R102). -/
def State.seeAccept (s : State) (h : Handle) : State :=
  let entered := s.anyElem (fun x => x.claimedFor h && x.atTarget)
  let s := s.forElems allElems (State.confirm h)
  if entered && s.allSet h then s.hopstat h (s.maskOf h) .ready .none (s.wearOf h) else s

/-- The frame comes from the handle's anchor, and the node is RUNNING (R84, R107). -/
def State.fromAnchor (s : State) (sender : Address) (h : Handle) : Bool :=
  s.nodeState == .running && sender == h.anchor

/-- FRAME_SEEN_ACCEPT. -/
def execFrameSeenAccept (s : State) : Host.Outcome State Fault Refusal :=
  match s.headFrame with
  | some ⟨sender, .accept h⟩ =>
    .next (if s.fromAnchor sender h then s.popFrame.seeAccept h else s.popFrame)
  | _ => .next s

/-! ### FRAME_SEEN_REFUSE -/

/-- FRAME_SEEN_REFUSE (R11, R103). -/
def execFrameSeenRefuse (s : State) : Host.Outcome State Fault Refusal :=
  match s.headFrame with
  | some ⟨sender, .refuse h _⟩ =>
    .next (if s.fromAnchor sender h then s.popFrame.dropClaims h else s.popFrame)
  | _ => .next s

end Sys2Proof.Machine
end

