-- ==== Sys2Proof/Machine/Path.lean ====
section
/-!
DEFINITION. The frames of a path: FRAME_SEEN_HOPSTAT, FRAME_SEEN_HOT, FRAME_SEEN_COLD,
FRAME_SEEN_RELEASE, FRAME_SEEN_BREAK and FRAME_SEEN_DROP (sections 7.6 and 8).
-/

namespace Sys2Proof.Machine

/-- The node is RUNNING and anchors the handle (R121, R126, R127, R134). -/
def State.anchors (s : State) (h : Handle) : Bool :=
  s.nodeState == .running && h.anchor == s.address

/-! ### FRAME_SEEN_HOPSTAT -/

/-- The ready set and the scan's current throw after a Ready report (R117, R146). -/
def Slot.takeReady (mask : HopMask) (sl : Slot) : Slot :=
  let back := sl.state == .stepping && mask.getLsbD sl.lastHop
  { sl with
    ready := sl.ready ||| (mask &&& fullMask sl.count)
    scan := if back then
        sl.scan.map (fun sc => { sc with current := sl.lastThrow.getD sc.current })
      else sl.scan }

/-- A Ready report reaches the slot (R117, R118, R146). -/
def State.seeReady (s : State) (g : Gate) (mask : HopMask) : State :=
  match (s.slot g).state with
  | .collecting | .stepping => (s.setSlot g ((s.slot g).takeReady mask)).testReady g
  | .idle | .hot | .quenching | .held | .releasing => s

/-- A ScanRefused report reaches the slot (R141). -/
def State.seeScanRefused (s : State) (g : Gate) : State :=
  match (s.slot g).state with
  | .idle | .releasing => s
  | .collecting | .hot | .quenching | .stepping | .held =>
    if (s.slot g).scan.isSome then
      (s.setSlot g { s.slot g with scan := none }).enqueueLast
        (.frame (.notice .scanRefused (some ⟨s.address, g⟩) Reason.hopRefused.code))
    else s

/-- A HOPSTAT for a path the node anchors (R117, R120, R141). -/
def State.seeHopstat (s : State) (g : Gate) (mask : HopMask) (st : Status) : State :=
  match st with
  | .ready => s.seeReady g mask
  | .refused => s.endPath g .hopRefused
  | .fault => s.endPath g .hopFault
  | .scanRefused => s.seeScanRefused g

/-- FRAME_SEEN_HOPSTAT (R117, R121). -/
def execFrameSeenHopstat (s : State) : Host.Outcome State Fault Refusal :=
  match s.headFrame with
  | some ⟨_, .hopstat h mask st _ _⟩ =>
    .next (if s.anchors h then s.popFrame.seeHopstat h.gate mask st else s.popFrame)
  | _ => .next s

/-! ### FRAME_SEEN_HOT -/

/-- HOT: the handle's SET elements go to LIVE (R108). -/
def Element.seeHot (h : Handle) (x : Element) : Element :=
  if x.ownedBy h && x.state == .set then { x with state := .live } else x

/-- FRAME_SEEN_HOT (R107, R108). -/
def execFrameSeenHot (s : State) : Host.Outcome State Fault Refusal :=
  match s.headFrame with
  | some ⟨sender, .hot h⟩ =>
    .next (if s.fromAnchor sender h then
        s.popFrame.forElems allElems (fun e s => s.modElem e (Element.seeHot h))
      else s.popFrame)
  | _ => .next s

/-! ### FRAME_SEEN_COLD -/

/-- COLD: the handle's LIVE elements go to SET (R108). -/
def Element.seeCold (h : Handle) (x : Element) : Element :=
  if x.ownedBy h && x.state == .live then x.toSet else x

/-- Every LIVE element of the handle goes to SET. -/
def State.coolElems (s : State) (h : Handle) : State :=
  s.forElems allElems (fun e s => s.modElem e (Element.seeCold h))

/-- The element that holds hop `k` of the handle (R98). -/
def State.hopElem (s : State) (h : Handle) (k : HopNo) : Option ElemNo :=
  allElems.find? (fun e =>
    match (s.elem e).bind (fun x => x.owner) with
    | some o => o.handle == h && o.hop == k
    | none => false)

/-- A COLD step at the element that holds hop `k` (R14, R69, R108). -/
def State.stepElem (s : State) (h : Handle) (k : HopNo) (t : Throw) (e : ElemNo) (x : Element) :
    State :=
  match x.state with
  | .set | .live =>
    if x.throws ≤ t.val then s.hopstat h (hopBit k) .refused .badThrow false
    else if x.commanded = some t then s.hopstat h (hopBit k) .ready .none x.wearWarning
    else
      (s.setElem e { x with state := .waiting, target := some t, stepTarget := true, retry := false }).queueMove
        e t ((x.owner.map (·.lane)).getD 7)
  | .fault => s.hopstat h (hopBit k) .fault .faulted false
  | .claimed | .waiting | .moving | .verifying =>
    s.hopstat h (hopBit k) .refused .busy false
  | .free | .returning => s

/-- COLD is taken (R108). -/
def State.seeCold (s : State) (h : Handle) (purpose : ColdPurpose) : State :=
  let s := s.coolElems h
  match purpose with
  | .all => s
  | .step k t =>
    match s.hopElem h k with
    | none => s
    | some e =>
      match s.elem e with
      | some x => s.stepElem h k t e x
      | none => s

/-- FRAME_SEEN_COLD (R107, R108). -/
def execFrameSeenCold (s : State) : Host.Outcome State Fault Refusal :=
  match s.headFrame with
  | some ⟨sender, .cold h purpose⟩ =>
    .next (if s.fromAnchor sender h then s.popFrame.seeCold h purpose else s.popFrame)
  | _ => .next s

/-! ### FRAME_SEEN_RELEASE -/

/-- The pending moves of the handle's WAITING elements are withdrawn (R15, R48). -/
def State.withdrawWaiting (s : State) (h : Handle) : State :=
  { s with
    moveQueue := s.moveQueue.filter (fun m =>
      match s.elem m.elem with
      | some x => !(x.ownedBy h && x.state == .waiting)
      | none => true) }

/-- Every element of the handle is released by its state (R109, R15). -/
def State.releaseHandle (s : State) (h : Handle) : State :=
  (s.withdrawWaiting h).forElems allElems (fun e s =>
    match s.elem e with
    | some x => if x.ownedBy h then s.releaseSeen e else s
    | none => s)

/-- The anchor's own RELEASE takes its RELEASING slot to IDLE (R129). -/
def State.ownRelease (s : State) (sender : Address) (h : Handle) : State :=
  if sender = s.address ∧ (s.slot h.gate).state = .releasing then s.setSlot h.gate .idle else s

/-- FRAME_SEEN_RELEASE (R107, R109, R129); in RESTARTING an own RELEASE is only accounted for
(R160). -/
def execFrameSeenRelease (s : State) : Host.Outcome State Fault Refusal :=
  match s.headFrame with
  | some ⟨sender, .release h reason⟩ =>
    .next (if s.fromAnchor sender h then (s.popFrame.releaseHandle h).ownRelease sender h
      else if s.nodeState = .restarting ∧ sender = s.address ∧ sender = h.anchor then
        s.popFrame.accountOwn RestartSeq.see (.release h reason)
      else s.popFrame)
  | _ => .next s

/-! ### FRAME_SEEN_BREAK -/

/-- FRAME_SEEN_BREAK (R110, R127, R160): an own BREAK is accounted for; at the anchor the path ends. -/
def execFrameSeenBreak (s : State) : Host.Outcome State Fault Refusal :=
  match s.headFrame with
  | some ⟨sender, .brk h mask reason⟩ =>
    let t := if sender = s.address then s.popFrame.accountOwn RestartSeq.see (.brk h mask reason)
      else s.popFrame
    .next (if s.anchors h then t.endPath h.gate .broken else t)
  | _ => .next s

/-! ### FRAME_SEEN_DROP -/

/-- FRAME_SEEN_DROP (R126). -/
def execFrameSeenDrop (s : State) : Host.Outcome State Fault Refusal :=
  match s.headFrame with
  | some ⟨_, .drop h⟩ =>
    .next (if s.anchors h then s.popFrame.endPath h.gate .dropped else s.popFrame)
  | _ => .next s

end Sys2Proof.Machine
end

