-- ==== Sys2Proof/Machine/Restart.lean ====
section
/-!
DEFINITION. The steps of a warm restart after its start: TEARDOWN_FRAME_QUEUED,
RESTART_WITHDRAWAL_STEP and RESTART_RELEASE_STEP (section 10.4).
-/

namespace Sys2Proof.Machine

/-- TEARDOWN_FRAME_QUEUED (R159): the next teardown frame that waits outside is queued, if there is
room. -/
def execTeardownFrameQueued (s : State) : Host.Outcome State Fault Refusal :=
  match s.restart with
  | some r =>
    match r.waiting with
    | f :: fs =>
      if s.txQueue.length < Config.txCapacity then
        .next { s with
          txQueue := s.txQueue ++ [TxEntry.new (.frame f)]
          restart := some { r with
            waiting := fs, outstanding := r.outstanding ++ f.teardown.toList } }
      else .next s
    | [] => .next s
  | none => .next s

/-- The withdrawal step (R161): every queued move is withdrawn (R49), the lane hold mask and the lane
order are reset. In rotating mode an end of PULSING that comes later rotates the order (R44) until the
restart's end resets it again (R163, log entry 29). -/
def State.withdrawalStep (s : State) (r : RestartSeq) : State :=
  { s with moveQueue := [], laneHold := 0, orderHead := 0, restart := some { r with withdrawn := true } }

/-- RESTART_WITHDRAWAL_STEP: it comes once every teardown frame is accounted for. -/
def execRestartWithdrawalStep (s : State) : Host.Outcome State Fault Refusal :=
  match s.restart with
  | some r =>
    if r.waiting.isEmpty && r.outstanding.isEmpty && !r.withdrawn then .next (s.withdrawalStep r)
    else .next s
  | none => .next s

/-- The release step at one element, by its state (R161). -/
def State.restartElem (e : ElemNo) (s : State) : State :=
  match s.elem e with
  | none => s
  | some x =>
    match x.state with
    | .claimed => s.setElem e x.toFree
    | .waiting => (s.withdraw e).release e
    | .verifying | .set | .live => s.release e
    | .fault => if x.owner.isSome then s.release e else s
    | .returning =>
      if x.verifyDue || s.hasEntry e || s.hasService e then s
      else
        match x.target with
        | some t => s.queueMove e t 7
        | none => s
    | .free | .moving => s

/-- The hold of an F element that is not RETURNING is released (R24, R161). -/
def Element.dropHold (cfg : ImageConfig) (x : Element) : Element :=
  if x.cls = .failsafe ∧ x.state ≠ .returning ∧ x.hold.isSome then
    ({ x with hold := none, commanded := some 0, mismatchRun := 0 }).addWear cfg 1
  else x

/-- The transmit queue at the end of a restart (R162): only a frame in transmission remains, and it
leaves at the end of its attempt. -/
def leavingOnly (q : List TxEntry) : List TxEntry :=
  (q.filter (fun e => e.inTransmission)).map (fun e => { e with leaving := true })

/-- The queues, slots and reasons at the end of a restart (R162, steps 1 to 3), in RUNNING, with no lane
held and the lane order 0 to 7 (R163, log entry 29). -/
def State.clearForRestart (s : State) : State :=
  { s with
    slots := Vector.replicate 8 .idle
    gateOut := Vector.replicate 8 false
    extTable := []
    rxQueue := []
    txQueue := leavingOnly s.txQueue
    reportSlot := if s.txQueue.any (fun e => e.inTransmission && e.item == .report) then s.reportSlot
      else none
    restartDrive := false
    restart := none
    laneHold := 0
    orderHead := 0
    nodeState := .running }

/-- The release step and the end of the restart (R161, R162). -/
def State.releaseStep (s : State) : State :=
  let s := s.forElems allElems State.restartElem
  let s := s.forElems allElems (fun e s => s.modElem e (Element.dropHold s.config))
  ((s.clearForRestart.enqueue (.notice .started none 0)).startUnheld).grants

/-- RESTART_RELEASE_STEP: it comes after the withdrawal step, once no move is in service. -/
def execRestartReleaseStep (s : State) : Host.Outcome State Fault Refusal :=
  match s.restart with
  | some r =>
    if r.withdrawn && s.services.isEmpty then .next s.releaseStep else .next s
  | none => .next s

end Sys2Proof.Machine
end

