-- ==== Sys2Proof/Machine/Scanning.lean ====
section
/-!
DEFINITION. FRAME_SEEN_SCAN and FRAME_SEEN_ADVANCE (section 9).
-/

namespace Sys2Proof.Machine

/-- The throw set holds a throw, where there is one. -/
def setHolds (S : ThrowSet) : Option Throw → Bool
  | some t => inSet S t
  | none => true

/-- The throw a SCAN must contain (R138): the record's current throw, or else the last hop's. -/
def Slot.currentThrow (sl : Slot) : Throw :=
  match sl.scan with
  | some sc => sc.current
  | none => sl.lastThrow.getD 15

/-- The anchor's check of a SCAN's throw set (R138). -/
def Slot.scanOk (sl : Slot) (S : ThrowSet) : Bool :=
  S != 0 && inSet S sl.currentThrow && setHolds S sl.inFlight

/-- The scan record of an accepted SCAN (R139). -/
def Slot.newScan (sl : Slot) (S : ThrowSet) (d k : Nat) : Scan where
  throws := S
  current := sl.currentThrow
  dwellReload := d
  dwell := d
  cyclesReload := k
  cycles := k
  pending := false
  overrun := match sl.scan with
    | some sc => sc.overrun
    | none => 0
  ended := false

/-- The anchor's part of a SCAN (R138, R139). -/
def State.scanAnchor (s : State) (g : Gate) (S : ThrowSet) (d k : Nat) : State :=
  let sl := s.slot g
  match sl.state with
  | .idle | .releasing => s
  | .collecting | .hot | .quenching | .stepping | .held =>
    if sl.scanOk S then s.setSlot g { sl with scan := some (sl.newScan S d k) }
    else
      s.enqueueLast (.frame (.notice .scanRefused (some ⟨s.address, g⟩) Reason.badSet.code))

/-- The handle's last hop, where an element of the node carries the last-hop mark (R140): the hop number
and the element's throw count. -/
def State.lastHopElem (s : State) (h : Handle) : Option (HopNo × Nat) :=
  allElems.findSome? (fun e =>
    (s.elem e).bind (fun x => x.owner.bind (fun o =>
      if o.handle = h ∧ o.lastHop then some (o.hop, x.throws) else none)))

/-- The check at the last hop's node (R140). -/
def State.scanLastHop (s : State) (h : Handle) (S : ThrowSet) : State :=
  match s.lastHopElem h with
  | some (k, n) =>
    if setThrows.any (fun t => inSet S t && decide (n ≤ t.val)) then
      s.hopstat h (hopBit k) .scanRefused .badThrow false
    else s
  | none => s

/-- FRAME_SEEN_SCAN (R138, R140). At a node that is both, the anchor's check runs first (log entry 11). -/
def execFrameSeenScan (s : State) : Host.Outcome State Fault Refusal :=
  match s.headFrame with
  | some ⟨_, .scan h S d k⟩ =>
    if s.nodeState = .running then
      let t := if h.anchor = s.address then s.popFrame.scanAnchor h.gate S d.toNat k.toNat
        else s.popFrame
      .next (t.scanLastHop h S)
    else .next s.popFrame
  | _ => .next s

/-- FRAME_SEEN_ADVANCE (R142): a trigger for the slot of a gate the node anchors. -/
def execFrameSeenAdvance (s : State) : Host.Outcome State Fault Refusal :=
  match s.headFrame with
  | some ⟨_, .advance h⟩ =>
    .next (if s.anchors h then s.popFrame.trigger h.gate else s.popFrame)
  | _ => .next s

end Sys2Proof.Machine
end

