-- ==== Sys2Proof/Machine/Sense.lean ====
section
/-!
DEFINITION. SENSE_GROUP_READ: the read of a sense group and the judgement of each element read
(section 5), and the end of the first full loop (R72, R169).
-/

namespace Sys2Proof.Machine

/-- Readiness after an element of `h` entered SET (R68, R69): a step target gives a report for the one
hop; otherwise a report for the node's whole part once all its elements for `h` are SET. None is
queued while the node restarts (R71). -/
def State.reportSet (s : State) (o : Owner) (step warning : Bool) : State :=
  if s.nodeState = .running then
    if step then s.hopstat o.handle (hopBit o.hop) .ready .none warning
    else if s.allSet o.handle then
      s.hopstat o.handle o.mask .ready .none (s.wearOf o.handle)
    else s
  else s

/-- A second verify mismatch takes an element to FAULT (R13, R17, R18), the half memory of a cascaded one
UNKNOWN, as after every verify read that does not match (R3, R31). -/
def Element.toStuck (x : Element) : Element := { x.toFault with half := x.halfUnknown }

/-- The verify read of a VERIFYING element (R59 to R61). -/
def State.judgeVerify (s : State) (e : ElemNo) (x : Element) : State :=
  if x.readMatches then
    let s := s.setElem e x.toSet
    match x.owner with
    | some o => s.reportSet o x.stepTarget x.wearWarning
    | none => s
  else if x.retry then
    let s := (s.setElem e x.toStuck).capture .stuck (some e) (x.owner.map (·.handle))
    match x.owner with
    | some o =>
      if s.nodeState = .running then s.hopstat o.handle (hopBit o.hop) .fault .stuck false else s
    | none => s
  else
    let s := s.setElem e { x with state := .waiting, retry := true, half := x.halfUnknown }
    match x.target with
    | some t => s.queueMove e t ((x.owner.map (·.lane)).getD 7)
    | none => s

/-- The verify read of a RETURNING element (R17). -/
def State.judgeReturn (s : State) (e : ElemNo) (x : Element) : State :=
  if x.readMatches then s.setElem e x.toFree
  else if x.retry then (s.setElem e x.toStuck).capture .stuck (some e) none
  else
    let s := s.setElem e { x with retry := true, half := x.halfUnknown, verifyDue := false }
    match x.target with
    | some t => s.queueMove e t 7
    | none => s

/-- A BREAK for a drop-out, unless one for the handle is still in the transmit queue (R64). -/
def State.queueBreak (s : State) (h : Handle) (mask : HopMask) : State :=
  if s.txQueue.any (TxEntry.isBreakOf h) then s
  else ({ s with breaksOut := s.breaksOut ++ [h] }).enqueue (.brk h mask Reason.dropOut.code)

/-- An exposed element drops out (R64); while the node restarts no BREAK is queued (R71). -/
def State.dropOut (s : State) (e : ElemNo) (x : Element) : State :=
  let s := (s.setElem e x.toFault).capture .dropOut (some e) (x.owner.map (·.handle))
  match x.owner with
  | some o => if s.nodeState = .running then s.queueBreak o.handle o.mask else s
  | none => s

/-- The exposure watch of a SET or LIVE element (R63, R64). -/
def State.judgeExposed (s : State) (e : ElemNo) (x : Element) : State :=
  if x.readMatches then s.setElem e { x with mismatchRun := 0 }
  else if x.mismatchRun = 0 then s.setElem e { x with mismatchRun := 1 }
  else s.dropOut e x

/-- A read is judged according to the element's state (R58). -/
def State.judge (e : ElemNo) (s : State) : State :=
  match s.elem e with
  | none => s
  | some x =>
    match x.state with
    | .verifying => s.judgeVerify e x
    | .returning => if x.verifyDue then s.judgeReturn e x else s
    | .set | .live => s.judgeExposed e x
    | .free | .claimed | .waiting | .moving | .fault => s

/-- A read stores the sensed value of each element in use (R8, R57); `p` pairs it with its contacts. -/
def State.storeSensed (s : State) (p : ElemNo × ThrowSet) : State :=
  s.modElem p.1 (fun x => { x with sensed := sensedOf x.throws p.2 })

/-- Seeding at the end of the first full loop (R72). -/
def Element.seed (x : Element) : Element :=
  { x with commanded := x.sensed.valid, half := x.halfFrom x.sensed }

/-- The node enters RUNNING from SEEDING (R169). -/
def State.endSeeding (s : State) : State :=
  { (State.enqueue
      { s.forElems allElems (fun e s => s.modElem e Element.seed) with
        startUpDrive := false
        nodeState := .running } (.notice .started none 0)) with
    lineState := .seeking }

/-- The group the next read reads: 0 at whole milliseconds, 1 at half milliseconds (R56). -/
def State.nextGroup (s : State) : Nat := s.scanReads % 2

/-- The units until the next read is due (R56). -/
def State.untilRead (s : State) : Nat :=
  match s.scanClock with
  | some now => Config.readUnits * s.scanReads - now
  | none => 0

/-- One group read (R56 to R58): the values are stored, then judged in ascending element number; the
group 1 read in SEEDING ends the first full loop. -/
def State.readGroup (s : State) (contacts : List ThrowSet) : State :=
  let group := s.nextGroup
  let s := s.elapse s.untilRead
  let s := { s with scanReads := s.scanReads + 1 }
  let s := ((groupElems group).zip (contacts ++ List.replicate 8 0)).foldl State.storeSensed s
  let s := s.forElems (groupElems group) State.judge
  if s.nodeState = .seeding ∧ group = 1 then s.endSeeding else s

/-- SENSE_GROUP_READ: a read takes place only while the scan clock runs (R56). -/
def execSenseGroupRead (contacts : List ThrowSet) (s : State) : Host.Outcome State Fault Refusal :=
  if s.scanClock.isSome then .next (s.readGroup contacts) else .next s

end Sys2Proof.Machine
end

