-- ==== Sys2Proof/Machine/Service.lean ====
section
/-!
DEFINITION. The frames addressed to a node: FRAME_SEEN_LANEHOLD, FRAME_SEEN_QUERY,
FRAME_SEEN_CLEARFAULT and FRAME_SEEN_RESTART, and FRAME_SEEN_REPORT and FRAME_SEEN_NOTICE, which
have no effect (sections 4.5, 10 and 12).
-/

namespace Sys2Proof.Machine

/-- The frame addresses this node, and the node is RUNNING (R45, R156, R158). -/
def State.obeys (s : State) (t : Target) : Bool :=
  s.nodeState == .running && s.addressedBy t

/-- LANEHOLD (R45, R46): the mask is replaced, the moves of unheld lanes that need no channel start, and
grants are made. -/
def State.holdLanes (s : State) (mask : LaneMask) : State :=
  ({ s with laneHold := mask }).startUnheld.grants

/-- FRAME_SEEN_LANEHOLD (R45). -/
def execFrameSeenLanehold (s : State) : Host.Outcome State Fault Refusal :=
  match s.headFrame with
  | some ⟨_, .laneHold target mask⟩ =>
    .next (if s.obeys target then s.popFrame.holdLanes mask else s.popFrame)
  | _ => .next s

/-- The REPORT's place in the transmit queue is in transmission (R173). -/
def State.reportInTransmission (s : State) : Bool :=
  s.txQueue.any (fun e => e.inTransmission && e.item == .report)

/-- A REPORT is queued (R173): the slot holds it unless the full queue drops it. -/
def State.queueReport (s : State) (u : Subject) : State :=
  let t := s.fillTeardown
  if t.txQueue.length < Config.txCapacity then
    { t.enqueueLast .report with reportSlot := some u }
  else t.enqueueLast .report

/-- An answerable QUERY is taken (R173). Once the REPORT's attempt has won it has no effect; in the
arbitration field its subject is held until the attempt is lost or won (log entry 8). -/
def State.seeQuery (s : State) (u : Subject) : State :=
  match s.reportSlot with
  | none => s.queueReport u
  | some _ =>
    if s.reportInTransmission then
      match s.txPhase with
      | .arbitrating _ => { s with txPhase := .arbitrating (some u) }
      | .quiet | .sending _ => s
    else { s with reportSlot := some u }

/-- The node states in which a QUERY is answered (R172). -/
def NodeState.answersQueries : NodeState → Bool
  | .running | .configFault => true
  | .starting | .seeding | .restarting => false

/-- FRAME_SEEN_QUERY (R172, R173). -/
def execFrameSeenQuery (s : State) : Host.Outcome State Fault Refusal :=
  match s.headFrame with
  | some ⟨_, .query target u⟩ =>
    .next (if s.nodeState.answersQueries && s.addressedBy target && s.answers u then
        s.popFrame.seeQuery u
      else s.popFrame)
  | _ => .next s

/-- FRAME_SEEN_REPORT (R177): taken, with no effect. -/
def execFrameSeenReport (s : State) : Host.Outcome State Fault Refusal :=
  match s.headFrame with
  | some ⟨_, .report _ _⟩ => .next s.popFrame
  | _ => .next s

/-- FRAME_SEEN_NOTICE (R177): taken, with no effect. -/
def execFrameSeenNotice (s : State) : Host.Outcome State Fault Refusal :=
  match s.headFrame with
  | some ⟨_, .notice _ _ _⟩ => .next s.popFrame
  | _ => .next s

/-- CLEARFAULT at one element (R20): its latch is cleared; a FAULT element without owner goes to FREE
with commanded throw and half memory from its sensed throw. -/
def Element.clearFault (x : Element) : Element :=
  let y := { x with faultLatch := false }
  if x.state = .fault ∧ x.owner.isNone then
    { y.toFree with commanded := x.sensed.valid, half := x.halfFrom x.sensed }
  else y

/-- CLEARFAULT (R156): the fault record is emptied and every latch cleared. -/
def State.clearFaults (s : State) : State :=
  { s.forElems allElems (fun e s => s.modElem e Element.clearFault) with fault := .empty }

/-- FRAME_SEEN_CLEARFAULT (R156). -/
def execFrameSeenClearfault (s : State) : Host.Outcome State Fault Refusal :=
  match s.headFrame with
  | some ⟨_, .clearFault target⟩ =>
    .next (if s.obeys target then s.popFrame.clearFaults else s.popFrame)
  | _ => .next s

/-- FRAME_SEEN_RESTART (R158). -/
def execFrameSeenRestart (s : State) : Host.Outcome State Fault Refusal :=
  match s.headFrame with
  | some ⟨_, .restart target⟩ =>
    .next (if s.obeys target then s.popFrame.beginRestart else s.popFrame)
  | _ => .next s

end Sys2Proof.Machine
end

