-- ==== Sys2Proof/Machine/Startup.lean ====
section
/-!
DEFINITION. RESET_LOW, RESET_HIGH and IMAGE_READ_DONE: cold start and the configuration image
(section 11).
-/

namespace Sys2Proof.Machine

/-- RESET low (R165): every block takes its cold-start values, and every S element's control inputs are at throw
0. The CFG SPI port is deselected, an image read cut short (log entry 28). The COILOK input keeps its level; the
waiting commands and the count of free values are the model's and stay. -/
def State.coldStart (s : State) : State :=
  { State.reset with coilOk := s.coilOk, freeCount := s.freeCount, pending := s.pending }

/-- RESET_LOW. -/
def execResetLow (s : State) : Host.Outcome State Fault Refusal := .next s.coldStart

/-- The bytes the node sends to read the image (R166): the read command and the address 0. -/
def readCommand : List Byte := [0x03, 0x00, 0x00]

/-- RESET high (R166): the straps are sampled and the image read begins. -/
def State.startImageRead (s : State) (straps : BitVec 6) : State :=
  { s with address := straps.toFin, loader := .reading, spi := ⟨true, readCommand⟩ }

/-- RESET_HIGH: the event takes place only while RESET is low. -/
def execResetHigh (straps : BitVec 6) (s : State) : Host.Outcome State Fault Refusal :=
  if s.loader = .held then .next (s.startImageRead straps) else .next s

/-! ### The image (section 11.3) -/

/-- Byte i of the image; a byte the memory does not give reads as blank memory does, 0xFF (R166). -/
def imageByte (image : List Byte) (i : Nat) : Nat := (image.getD i 0xFF).toNat

/-- A two-byte figure, most significant byte first. -/
def imageWord (image : List Byte) (i : Nat) : Nat :=
  imageByte image i * 256 + imageByte image (i + 1)

/-- The sum of bytes 0 to n−1. -/
def imageSum (image : List Byte) : Nat → Nat
  | 0 => 0
  | n + 1 => imageSum image n + imageByte image n

/-- Step 5 of R166: the format code and the length are in range. -/
def imageHeaderOk (image : List Byte) : Bool :=
  imageByte image 0 == 0x5A && decide (27 ≤ imageByte image 1) && decide (imageByte image 1 ≤ 117)

/-- The first byte of an element's entry. -/
def entryAt (e : Nat) : Nat := 19 + 6 * e

/-- The checks R167 makes of one entry. -/
def entryOk (image : List Byte) (e : Nat) : Bool :=
  let cls := imageByte image (entryAt e)
  let n := imageByte image (entryAt e + 1)
  let flags := imageByte image (entryAt e + 2)
  decide (1 ≤ cls) && decide (cls ≤ 3) && decide (2 ≤ n) && decide (n ≤ 12) &&
    (!flags.testBit 7 || (cls == 1 && decide (4 ≤ n))) &&
    (!flags.testBit 6 || decide (flags % 16 < n))

/-- The entries 0 to k−1 pass their checks. -/
def entriesOk (image : List Byte) : Nat → Bool
  | 0 => true
  | k + 1 => entriesOk image k && entryOk image k

/-- All checks of R167. -/
def imageOk (image : List Byte) : Bool :=
  let len := imageByte image 1
  let count := imageByte image 2
  imageHeaderOk image &&
    imageWord image (len - 2) == imageSum image (len - 2) % 65536 &&
    decide (1 ≤ count) && decide (count ≤ 16) && len == 21 + 6 * count && entriesOk image count

/-- The clamp of a pulse width (R168). -/
def clampPulse (v : Nat) : Nat := max 1 (min 250 v)

/-- The clamp of a settle base and of Q (R168). -/
def clampSettle (v : Nat) : Nat := min 250 v

/-- The image's figures as the node uses them (R168). -/
def imageConfig (image : List Byte) : ImageConfig where
  rotating := imageByte image 3 != 0
  quenchTime := clampSettle (imageByte image 4)
  setupTimeout := max 1 (imageByte image 5)
  gateEnable := BitVec.ofNat 8 (imageByte image 6)
  pL := clampPulse (imageWord image 7)
  sL := clampSettle (imageWord image 9)
  pF := clampPulse (imageWord image 11)
  sF := clampSettle (imageWord image 13)
  sS := clampSettle (imageWord image 15)
  wearL := imageByte image 17
  wearF := imageByte image 18

/-- The class of a class byte. -/
def classOf : Nat → ElemClass
  | 1 => .latching
  | 2 => .failsafe
  | _ => .solidState

/-- An element record as its entry gives it (R23). -/
def imageElement (image : List Byte) (e : Nat) : Element :=
  let at0 := entryAt e
  let cls := classOf (imageByte image at0)
  let flags := imageByte image (at0 + 2)
  let base := imageByte image (at0 + 3) * 65536 + imageWord image (at0 + 4)
  { cls := cls
    throws := imageByte image (at0 + 1)
    cascaded := flags.testBit 7
    park := if flags.testBit 6 then some (Fin.ofNat 16 (flags % 16)) else none
    baseWear := base
    state := .free
    commanded := none
    sensed := .noContact
    half := if flags.testBit 7 then .unknown else .absent
    owner := none
    target := none
    stepTarget := false
    retry := false
    releaseOnCompletion := false
    mismatchRun := 0
    faultLatch := false
    wear := base
    wearWarning := warningOf (imageConfig image) cls base
    verifyDue := false
    hold := none }

/-- The element table of an image (R5). -/
def imageElems (image : List Byte) : Vector (Option Element) 16 :=
  Vector.ofFn (fun e => if e.val < imageByte image 2 then some (imageElement image e) else none)

/-- The image is accepted (R168): the scan clock takes its origin and the node enters SEEDING. -/
def State.acceptImage (s : State) (image : List Byte) : State :=
  { s with
    nodeState := .seeding
    loader := .ended
    spi := { s.spi with selected := false }
    config := imageConfig image
    elems := imageElems image
    scanClock := some 0
    scanReads := 0 }

/-- The image is refused (R167): CONFIG-FAULT, with ConfigBad captured and the quench line let go; the
receiver begins to listen (R170). -/
def State.refuseImage (s : State) : State :=
  State.capture
    { s with
      nodeState := .configFault
      loader := .ended
      spi := { s.spi with selected := false }
      startUpDrive := false
      lineState := .seeking } .configBad none none

/-- IMAGE_READ_DONE: the event takes place only while the image is being read. -/
def execImageReadDone (image : List Byte) (s : State) : Host.Outcome State Fault Refusal :=
  if s.nodeState = .starting ∧ s.loader = .reading then
    .next (if imageOk image then s.acceptImage image else s.refuseImage)
  else .next s

end Sys2Proof.Machine
end

