-- ==== Sys2Proof/Machine/Dispatch.lean ====
section
/-!
DEFINITION. The effect of each command on everything but the queue of waiting commands: one arm for
each row of spec/opcode_table.json.
-/

namespace Sys2Proof.Machine

def exec (i : Instr) (s : State) : Host.Outcome State Fault Refusal :=
  match i with
  | .resetLow => Sys2Proof.Machine.execResetLow s
  | .resetHigh straps => Sys2Proof.Machine.execResetHigh straps s
  | .imageReadDone image => Sys2Proof.Machine.execImageReadDone image s
  | .senseGroupRead contacts => Sys2Proof.Machine.execSenseGroupRead contacts s
  | .moveDExpires e => Sys2Proof.Machine.execMoveDExpires e s
  | .cascadeFrontPulseEnd ch => Sys2Proof.Machine.execCascadeFrontPulseEnd ch s
  | .cascadeGapEnd ch => Sys2Proof.Machine.execCascadeGapEnd ch s
  | .pulsingEnd ch => Sys2Proof.Machine.execPulsingEnd ch s
  | .channelRecoveryEnd ch => Sys2Proof.Machine.execChannelRecoveryEnd ch s
  | .coilokRise => Sys2Proof.Machine.execCoilokRise s
  | .coilokFall => Sys2Proof.Machine.execCoilokFall s
  | .tentativeClaimTimerExpiry h => Sys2Proof.Machine.execTentativeClaimTimerExpiry h s
  | .setupStepTimerExpiry g => Sys2Proof.Machine.execSetupStepTimerExpiry g s
  | .quenchTimerExpiryRelease g => Sys2Proof.Machine.execQuenchTimerExpiryRelease g s
  | .quenchTimerExpiryStep g => Sys2Proof.Machine.execQuenchTimerExpiryStep g s
  | .resumeTimerExpiry g => Sys2Proof.Machine.execResumeTimerExpiry g s
  | .triggerEdge g => Sys2Proof.Machine.execTriggerEdge g s
  | .quenchAssertionSensed => Sys2Proof.Machine.execQuenchAssertionSensed s
  | .quenchReleaseSensed => Sys2Proof.Machine.execQuenchReleaseSensed s
  | .lineIdleResync => Sys2Proof.Machine.execLineIdleResync s
  | .txAttemptStart => Sys2Proof.Machine.execTxAttemptStart s
  | .arbitrationLost => Sys2Proof.Machine.execArbitrationLost s
  | .arbitrationWon => Sys2Proof.Machine.execArbitrationWon s
  | .frameEnd frame flagged => Sys2Proof.Machine.execFrameEnd frame flagged s
  | .frameSeenRoute => Sys2Proof.Machine.execFrameSeenRoute s
  | .frameSeenRouteExt => Sys2Proof.Machine.execFrameSeenRouteExt s
  | .frameSeenAccept => Sys2Proof.Machine.execFrameSeenAccept s
  | .frameSeenRefuse => Sys2Proof.Machine.execFrameSeenRefuse s
  | .frameSeenHopstat => Sys2Proof.Machine.execFrameSeenHopstat s
  | .frameSeenHot => Sys2Proof.Machine.execFrameSeenHot s
  | .frameSeenCold => Sys2Proof.Machine.execFrameSeenCold s
  | .frameSeenRelease => Sys2Proof.Machine.execFrameSeenRelease s
  | .frameSeenBreak => Sys2Proof.Machine.execFrameSeenBreak s
  | .frameSeenScan => Sys2Proof.Machine.execFrameSeenScan s
  | .frameSeenAdvance => Sys2Proof.Machine.execFrameSeenAdvance s
  | .frameSeenDrop => Sys2Proof.Machine.execFrameSeenDrop s
  | .frameSeenLanehold => Sys2Proof.Machine.execFrameSeenLanehold s
  | .frameSeenQuery => Sys2Proof.Machine.execFrameSeenQuery s
  | .frameSeenReport => Sys2Proof.Machine.execFrameSeenReport s
  | .frameSeenNotice => Sys2Proof.Machine.execFrameSeenNotice s
  | .frameSeenClearfault => Sys2Proof.Machine.execFrameSeenClearfault s
  | .frameSeenRestart => Sys2Proof.Machine.execFrameSeenRestart s
  | .teardownFrameQueued => Sys2Proof.Machine.execTeardownFrameQueued s
  | .restartWithdrawalStep => Sys2Proof.Machine.execRestartWithdrawalStep s
  | .restartReleaseStep => Sys2Proof.Machine.execRestartReleaseStep s
  | .overLongFrame => Sys2Proof.Machine.execOverLongFrame s

end Sys2Proof.Machine
end

