-- ==== Sys2Proof/Safety.lean ====
section
/-!
DEFINITION. What counts as a safe node, in the terms claims use: the laws that the manual says hold
of the gates, the slots, the arbiter, the exposed elements, the queues and the scan records.
-/

namespace Sys2Proof.Machine

/-- A gate output is active only while the node is RUNNING and the gate's slot is HOT (R115, R134). -/
def State.gatesSafe (s : State) : Prop :=
  ∀ g, s.gate g = true → s.nodeState = .running ∧ (s.slot g).state = .hot

/-- A slot in HOT, or in HELD, has every hop of its path in its ready set (R118, R152). -/
def State.readySafe (s : State) : Prop :=
  ∀ g, (s.slot g).state = .hot ∨ (s.slot g).state = .held → (s.slot g).full = true

/-- An element whose move is pending (R12, R37): WAITING, or RETURNING with its D not expired. -/
def Element.mayPend (x : Element) : Prop :=
  x.state = .waiting ∨ (x.state = .returning ∧ x.verifyDue = false)

/-- An element whose move is in service (R12, R50): MOVING, or RETURNING with its D not expired. -/
def Element.mayMove (x : Element) : Prop :=
  x.state = .moving ∨ (x.state = .returning ∧ x.verifyDue = false)

/-- The law of the arbiter (R37, R50): a move is pending or in service only for an element whose state says so,
at most one for each element, an entry is marked as its class and target ask (R38), and a channel pulses only
for a move in service; a MOVING element's move is in service, and while no restart is under way a WAITING
element's move is pending, and a RETURNING element's pending or in service until its D expires (R161). A node in
STARTING holds no element and no move, and one in SEEDING no move and FREE elements only (R54, R72, R165). -/
structure State.arbiterSafe (s : State) : Prop where
  pend : ∀ e, s.hasEntry e = true → ∃ x, s.elem e = some x ∧ x.mayPend
  serve : ∀ e, s.hasService e = true → ∃ x, s.elem e = some x ∧ x.mayMove
  pulse : ∀ c e, (s.channel c).pulses e = true → s.hasService e = true
  one : (s.moveQueue.map (·.elem) ++ s.services.map (·.elem)).Nodup
  moving : ∀ e x, s.elem e = some x → x.state = .moving → s.hasService e = true
  marked : ∀ m ∈ s.moveQueue, ∀ x, s.elem m.elem = some x →
    m.needsChannel = Machine.needsChannel x.cls m.target
  waiting : s.restart = none →
    ∀ e x, s.elem e = some x → x.state = .waiting → s.hasEntry e = true
  returning : s.restart = none → ∀ e x, s.elem e = some x → x.state = .returning →
    x.verifyDue = false → s.hasEntry e = true ∨ s.hasService e = true
  start : s.nodeState = .starting →
    s.moveQueue = [] ∧ s.services = [] ∧ ∀ e, s.elem e = none
  seed : s.nodeState = .seeding →
    s.moveQueue = [] ∧ s.services = [] ∧ ∀ e x, s.elem e = some x → x.state = .free

/-- The counts and reloads of a scan record are at most 255 (R136). -/
structure Scan.countsSafe (sc : Scan) : Prop where
  dwellReload  : sc.dwellReload ≤ Config.countMax
  dwell        : sc.dwell ≤ Config.countMax
  cyclesReload : sc.cyclesReload ≤ Config.countMax
  cycles       : sc.cycles ≤ Config.countMax
  overrun      : sc.overrun ≤ Config.countMax

/-- The queues, tables and counts stay within the part's bounds (R80, R81, R86, R88, R90, R136, R155), and the
extension table holds at most one entry for each sender (R90). -/
structure State.bounded (s : State) : Prop where
  tx : s.txQueue.length ≤ Config.txCapacity
  rx : s.rxQueue.length ≤ Config.rxCapacity
  ext : s.extTable.length ≤ Config.extCapacity
  senders : (s.extTable.map (·.sender)).Nodup
  bad : s.badFrames ≤ Config.countMax
  drops : s.txDrops ≤ Config.countMax
  later : s.fault.later ≤ Config.laterMax
  scans : ∀ g sc, (s.slot g).scan = some sc → sc.countsSafe

/-- While a scan record exists, its current throw is a member of its throw set, and so is the throw of a
step in flight (R136, R138, R146). -/
def State.scanSafe (s : State) : Prop :=
  ∀ g sc, (s.slot g).scan = some sc →
    inSet sc.throws sc.current = true ∧ setHolds sc.throws (s.slot g).inFlight = true

/-- The restart sequence and the drive reasons follow the node state (R151, R158, R162): a restart is under
way, and its reason holds, in RESTARTING; the start-up reason holds in STARTING and SEEDING. -/
structure State.drivesSafe (s : State) : Prop where
  sequence : s.restart.isSome = true ↔ s.nodeState = .restarting
  restart  : s.restartDrive = true ↔ s.nodeState = .restarting
  startUp  : s.startUpDrive = true ↔ s.nodeState = .starting ∨ s.nodeState = .seeding

/-- The extension table stays empty until the node takes frames (R92). -/
def State.extensionsSafe (s : State) : Prop :=
  s.nodeState = .starting ∨ s.nodeState = .seeding → s.extTable = []

/-- The figures of an image in use lie in the ranges that section 11.3 gives (R168). -/
structure ImageConfig.figuresSafe (cfg : ImageConfig) : Prop where
  quench : cfg.quenchTime ≤ 250
  setup  : 1 ≤ cfg.setupTimeout ∧ cfg.setupTimeout ≤ 255
  pulse  : 1 ≤ cfg.pL ∧ cfg.pL ≤ 250 ∧ 1 ≤ cfg.pF ∧ cfg.pF ≤ 250
  settle : cfg.sL ≤ 250 ∧ cfg.sF ≤ 250 ∧ cfg.sS ≤ 250

/-- The law of one element record: the wear count has not fallen below its base and does not pass its bound, the
warning is what the count gives (R21, R22); only an F element has a hold output (R2); a half memory is absent
exactly where the element is not cascaded (R3); no record is exposed after two mismatches (R63, R64); and where a record is in use, so are figures that lie in
their ranges (R168). -/
structure Element.recordSafe (cfg : ImageConfig) (x : Element) : Prop where
  base    : x.baseWear ≤ x.wear
  bound   : x.wear ≤ Config.wearMax
  warning : x.wearWarning = true ↔
    (x.cls = .latching ∧ cfg.wearL ≠ 0 ∧ 65536 * cfg.wearL ≤ x.wear) ∨
    (x.cls = .failsafe ∧ cfg.wearF ≠ 0 ∧ 65536 * cfg.wearF ≤ x.wear)
  hold    : x.cls ≠ .failsafe → x.hold = none
  half    : x.half = .absent ↔ x.cascaded = false
  run     : x.mismatchRun ≤ 1
  figures : cfg.figuresSafe

/-- Every record in use keeps the law of one record. -/
def State.recordsSafe (s : State) : Prop :=
  ∀ e x, s.elem e = some x → x.recordSafe s.config

/-- The control inputs (R1, R165): only those of an S element in use stand at another throw than 0, and none
does in STARTING. -/
structure State.controlsSafe (s : State) : Prop where
  only  : ∀ e, s.control e ≠ 0 → ∃ x, s.elem e = some x ∧ x.cls = .solidState
  start : s.nodeState = .starting → ∀ e, s.control e = 0

/-- What an element's state says of its owner, its target and its flags (R6, R7, R9, R10, R11, R15, R16,
R18): a claim is tentative exactly in CLAIMED, where its timer runs; the owner is absent in FREE and
RETURNING and present in every other state but FAULT and a MOVING element that a RELEASE reached; the target
is present exactly while the element is on its way to it; a mismatch run is left standing by a COLD step (R108)
and by the release of a MOVING element (R15), and ends with the entry to SET, FREE or FAULT. -/
structure Element.stateSafe (x : Element) : Prop where
  noOwner   : x.state = .free ∨ x.state = .returning → x.owner = none
  tentative : ∀ o, x.owner = some o →
    (o.tentative = true ↔ x.state = .claimed) ∧ (o.claimTimer.isSome = true ↔ x.state = .claimed)
  owned     : x.state = .claimed ∨ x.state = .waiting ∨ x.state = .verifying ∨ x.state = .set ∨
    x.state = .live → x.owner.isSome = true
  released  : x.releaseOnCompletion = true ↔ x.state = .moving ∧ x.owner = none
  noTarget  : x.state = .free ∨ x.state = .set ∨ x.state = .live ∨ x.state = .fault → x.target = none
  hasTarget : x.state = .claimed ∨ x.state = .waiting ∨ x.state = .moving ∨ x.state = .verifying ∨
    x.state = .returning → x.target.isSome = true
  step      : x.stepTarget = true → x.target.isSome = true
  retry     : x.retry = true → x.state = .waiting ∨ x.state = .moving ∨ x.state = .verifying ∨
    x.state = .returning
  due       : x.verifyDue = true → x.state = .returning
  run       : x.mismatchRun ≠ 0 → x.state ≠ .free ∧ x.state ≠ .fault

/-- Every record in use is as its state says. -/
def State.statesSafe (s : State) : Prop :=
  ∀ e x, s.elem e = some x → x.stateSafe

/-- The law of one anchor slot (R114, R117, R119, R128, R134): an IDLE slot is empty; the setup/step timer
runs in COLLECTING and STEPPING only, the quench timer in QUENCHING and HELD only; the purpose is present
exactly while the quench timer runs, resume only in HELD and the others only in QUENCHING; the step throw is
present exactly while the purpose is step; the ready set holds hop numbers of the path only. -/
structure Slot.slotSafe (sl : Slot) : Prop where
  idle    : sl.state = .idle → sl = Slot.idle
  timer   : sl.timer.isSome = true → sl.state = .collecting ∨ sl.state = .stepping
  quench  : sl.quenchTimer.isSome = true → sl.state = .quenching ∨ sl.state = .held
  purpose : sl.purpose.isSome = true ↔ sl.quenchTimer.isSome = true
  resume  : sl.purpose = some .resume → sl.state = .held
  others  : sl.purpose = some .step ∨ sl.purpose = some .release → sl.state = .quenching
  step    : sl.stepThrow.isSome = true ↔ sl.purpose = some .step
  ready   : sl.ready &&& ~~~(fullMask sl.count) = 0

/-- Every slot keeps the law of one slot. -/
def State.slotsSafe (s : State) : Prop := ∀ g, (s.slot g).slotSafe

/-- The next `n` frames that a block queues join the back of the transmit queue: no teardown frame waits
outside it, and it has room for them (R86, R88, R159). -/
structure State.roomFor (s : State) (n : Nat) : Prop where
  noneWaits : ∀ r, s.restart = some r → r.waiting = []
  room      : s.txQueue.length + n ≤ Config.txCapacity

/-- A frame whose fields fit the layout that R77 gives its kind. -/
def Frame.fits : Frame → Prop
  | .cold _ (.step _ t) => t ≠ 15
  | .route _ _ count _ hops => hops.length = min count.val 4
  | .routeExt _ hops => 1 ≤ hops.length ∧ hops.length ≤ 4
  | .report u content =>
    (u.kind = 0 ∧ content.length = 65) ∨ (u.kind = 1 ∧ content.length = 52) ∨
      (u.kind = 2 ∧ content.length = 58)
  | .brk .. | .hot _ | .cold _ .all | .release .. | .accept _ | .refuse .. | .hopstat .. | .scan ..
  | .advance _ | .drop _ | .laneHold .. | .query .. | .notice .. | .clearFault _ | .restart _ => True

/-- What the node holds of frames fits (R77, R78): the frames of the receive queue, of the transmit queue, on the line
and waiting outside for a restart fit their layouts; the report slot and a QUERY held in arbitration name a subject
that can be answered (R172); the extension table's entries name 1 to 4 hops (R90); a slot that is not IDLE holds a
path of 1 to 8 hops, and a step throw is at most 11 (R114). -/
structure State.framesSafe (s : State) : Prop where
  received : ∀ rx ∈ s.rxQueue, rx.frame.fits
  queued   : ∀ e ∈ s.txQueue, ∀ f, e.item = .frame f → f.fits
  sending  : ∀ f, s.txPhase = .sending f → f.fits
  waiting  : ∀ r, s.restart = some r → ∀ f ∈ r.waiting, f.fits
  subject  : ∀ u, s.reportSlot = some u → u.kind ≠ 3
  query    : ∀ u, s.txPhase = .arbitrating (some u) → u.kind ≠ 3
  ext      : ∀ x ∈ s.extTable, 1 ≤ x.hops.length ∧ x.hops.length ≤ 4
  hops     : ∀ g, (s.slot g).state ≠ .idle → 1 ≤ (s.slot g).hops.length ∧ (s.slot g).hops.length ≤ 8
  step     : ∀ g k, (s.slot g).stepThrow = some k → k.val < 12

/-- The state after a group read has come to its instant and stored its values, before it judges any element
(R56 to R58): `contacts` are those of the group's eight elements. -/
def State.afterStore (s : State) (contacts : List ThrowSet) : State :=
  { s.elapse s.untilRead with
    scanReads := s.scanReads + 1
    elems := Vector.ofFn (fun e => ((s.elapse s.untilRead).elem e).map (fun x =>
      if e.val / 8 = s.scanReads % 2 then
        { x with sensed := sensedOf x.throws (contacts.getD (e.val % 8) 0) }
      else x)) }

/-- A read judges an element in this state (R58). -/
def Element.judged (x : Element) : Bool :=
  match x.state with
  | .verifying | .set | .live => true
  | .returning => x.verifyDue
  | .free | .claimed | .waiting | .moving | .fault => false

/-- The state on which a group read judges element `e` (R58): the values are stored, and the elements of its group
with lower numbers have been judged, in ascending order. -/
def State.judgedBelow (s : State) (contacts : List ThrowSet) (e : ElemNo) : State :=
  (allElems.filter (fun f => f.val / 8 == e.val / 8 && f < e)).foldl (fun u f => u.judge f)
    (s.afterStore contacts)

/-- What a group read goes on to after element `e` (R58): the elements of its group with higher numbers are judged,
in ascending order. -/
def State.judgeAbove (s : State) (e : ElemNo) : State :=
  (allElems.filter (fun f => f.val / 8 == e.val / 8 && e < f)).foldl (fun u f => u.judge f) s

/-- A move may be granted now (R41): the node is RUNNING, COILOK is high, a channel is IDLE, and a move that
needs a channel is pending in a lane that is not held. -/
def State.grantable (s : State) : Prop :=
  s.nodeState = .running ∧ s.coilOk = true ∧ (∃ c, s.channel c = .idle) ∧
    ∃ m, m ∈ s.moveQueue ∧ m.needsChannel = true ∧ laneHeld s.laneHold m.lane = false

/-- A move that needs no channel may be started now (R47). -/
def State.startable (s : State) : Prop :=
  s.nodeState = .running ∧
    ∃ m, m ∈ s.moveQueue ∧ m.needsChannel = false ∧ laneHeld s.laneHold m.lane = false

/-- An image that R167 refuses, read byte by byte (section 11.3). -/
def imageFaulty (image : List Byte) : Prop :=
  let len := imageByte image 1
  let count := imageByte image 2
  imageByte image 0 ≠ 0x5A ∨ len < 27 ∨ 117 < len ∨
    imageWord image (len - 2) ≠ imageSum image (len - 2) % 65536 ∨
    count < 1 ∨ 16 < count ∨ len ≠ 21 + 6 * count ∨
    ∃ e, e < count ∧
      (imageByte image (19 + 6 * e) < 1 ∨ 3 < imageByte image (19 + 6 * e) ∨
        imageByte image (20 + 6 * e) < 2 ∨ 12 < imageByte image (20 + 6 * e) ∨
        ((imageByte image (21 + 6 * e)).testBit 7 = true ∧
          (imageByte image (19 + 6 * e) ≠ 1 ∨ imageByte image (20 + 6 * e) < 4)) ∨
        ((imageByte image (21 + 6 * e)).testBit 6 = true ∧
          imageByte image (20 + 6 * e) ≤ imageByte image (21 + 6 * e) % 16))

/-- How far down the lane priority order a lane stands (R44): 0 is the highest. -/
def laneRank (head k : Lane) : Nat := (k - head).val

end Sys2Proof.Machine
end

