-- ==== Sys2Proof/Certificates/Slice0/Obligations.lean ====
section
/-!
DEFINITION. The statements for the provers, each listed in OBLIGATIONS.json with the rule or the
sections of spec/ it rests on. A statement about a command says that `exec` answers a next state, what that
state holds, and, by writing it as the old state with named fields changed, that nothing else changes.
-/

open Sys2Proof Sys2Proof.Machine

/-! ### The step, the queue of commands and reset -/

/-- A step runs the command at the front of the queue on the state with the queue's rest; on an empty queue
one unit passes for every timer that runs, which is the model's choice (log entry 4). -/
def Obligations.StepRunsFrontCommand : Prop :=
  (∀ (c : Instr) (cs : List Instr) (s : State),
    step { s with pending := c :: cs } = exec c { s with pending := cs }) ∧
  ∀ s : State, s.pending = [] →
    ∃ t, step s = .next t ∧
      t = { s with
        elems := t.elems, services := t.services, channels := t.channels, slots := t.slots
        scanClock := s.scanClock.map (· + 1) } ∧
      t.services = s.services.map (fun v => { v with left := v.left - 1 }) ∧
      (∀ c, t.channel c = (s.channel c).elapse 1) ∧ (∀ g, t.slot g = (s.slot g).elapse 1) ∧
      ∀ e, t.elem e = (s.elem e).map (Element.elapse 1)

/-- No command stops the machine: each, in every state, answers a next state, and none touches the queue of
waiting commands. That a command whose event cannot take place answers the state as it was, and so completes too,
is the model's choice (log entry 5). -/
def Obligations.EveryCommandCompletes : Prop :=
  ∀ (c : Instr) (s : State), ∃ t, exec c s = .next t ∧ t.pending = s.pending

/-- RESET_LOW, in every state, gives the values of a cold start, with the quench line driven for the start-up
reason alone, every output inactive and every control input at throw 0. The model's choices among these values are
the address 0, the blank image figures, and the configuration memory deselected with nothing sent (log entries 1, 2
and 28); that the quench line is sensed asserted is inferred (log entry 7). That the level of COILOK, the count of
free values and the queue of commands stay is the model's choice too (log entries 3, 4, 8 and 17). -/
def Obligations.ResetLowGivesColdStart : Prop :=
  ∀ s : State, ∃ t, exec .resetLow s = .next t ∧
    t = { State.reset with coilOk := s.coilOk, freeCount := s.freeCount, pending := s.pending } ∧
    t.nodeState = .starting ∧ t.quenchDriven = true ∧ t.breakDrive = false ∧ t.restartDrive = false ∧
    t.faultOutput = false ∧ t.fault.later = 0 ∧ t.scanClock = none ∧
    (∀ g, t.gate g = false ∧ t.slot g = Slot.idle) ∧
    (∀ c, t.channel c = .idle ∧ t.coilOf (t.channel c) = .none) ∧ (∀ e, t.elem e = none ∧ t.control e = 0) ∧
    t.moveQueue = [] ∧ t.services = [] ∧ t.laneHold = 0 ∧ t.orderHead = 0 ∧
    t.txQueue = [] ∧ t.rxQueue = [] ∧ t.extTable = [] ∧ t.badFrames = 0 ∧ t.txDrops = 0 ∧
    t.txPhase = .quiet ∧ t.lineState = .notFollowing ∧ t.reportSlot = none ∧ t.restart = none

/-- The state right after reset keeps every law that the statements below take as a premise. -/
def Obligations.LawsHoldAtReset : Prop :=
  State.reset.gatesSafe ∧ State.reset.readySafe ∧ State.reset.slotsSafe ∧ State.reset.scanSafe ∧
    State.reset.arbiterSafe ∧ State.reset.statesSafe ∧ State.reset.recordsSafe ∧
    State.reset.controlsSafe ∧ State.reset.framesSafe ∧ State.reset.bounded ∧ State.reset.drivesSafe ∧ State.reset.extensionsSafe ∧
    ¬State.reset.grantable ∧ ¬State.reset.startable

/-! ### Start-up (section 11) -/

/-- RESET_HIGH, with RESET low before, takes the straps as the station address, most significant bit first,
selects the configuration memory and sends it the read command and the address 0; with RESET not low it is no
event, which is the model's choice (log entry 5). -/
def Obligations.ResetHighStartsImageRead : Prop :=
  ∀ (straps : BitVec 6) (s : State),
    (s.loader = .held →
      ∃ t, exec (.resetHigh straps) s = .next t ∧
        t = { s with address := t.address, loader := .reading, spi := ⟨true, [0x03, 0x00, 0x00]⟩ } ∧
        t.address.val = straps.toNat) ∧
    (s.loader ≠ .held → exec (.resetHigh straps) s = .next s)

/-- IMAGE_READ_DONE with an image that fails any check of R167 takes the node to CONFIG-FAULT, captures
ConfigBad and queues its NOTICE, lets the quench line go, and the receiver begins to listen. -/
def Obligations.FaultyImageIsRefused : Prop :=
  ∀ (image : List Byte) (s : State), s.nodeState = .starting → s.loader = .reading → s.roomFor 1 →
    s.fault.kind = none → imageFaulty image →
    ∃ t, exec (.imageReadDone image) s = .next t ∧
      t = { s with
        nodeState := .configFault, loader := .ended, spi := { s.spi with selected := false }
        startUpDrive := false, lineState := .seeking, fault := ⟨some .configBad, none, none, 0⟩
        txQueue := s.txQueue ++ [⟨.frame (.notice .faultCaptured none 6), false, false⟩] } ∧
      t.faultOutput = true ∧ t.quenchDriven = (s.breakDrive || s.restartDrive)

/-- IMAGE_READ_DONE with an image that passes every check takes its figures, clamped, and brings its elements
into use with their values of a cold start; the scan clock takes its origin and the node enters SEEDING. -/
def Obligations.SoundImageIsAccepted : Prop :=
  ∀ (image : List Byte) (s : State), s.nodeState = .starting → s.loader = .reading →
    ¬imageFaulty image →
    ∃ t, exec (.imageReadDone image) s = .next t ∧
      t = { s with
        nodeState := .seeding, loader := .ended, spi := { s.spi with selected := false }
        config := t.config, elems := t.elems, scanClock := some 0, scanReads := 0 } ∧
      (t.config.rotating = true ↔ imageByte image 3 ≠ 0) ∧
      t.config.quenchTime = min 250 (imageByte image 4) ∧
      t.config.setupTimeout = max 1 (imageByte image 5) ∧
      t.config.gateEnable.toNat = imageByte image 6 ∧
      t.config.pL = max 1 (min 250 (imageWord image 7)) ∧
      t.config.sL = min 250 (imageWord image 9) ∧
      t.config.pF = max 1 (min 250 (imageWord image 11)) ∧
      t.config.sF = min 250 (imageWord image 13) ∧
      t.config.sS = min 250 (imageWord image 15) ∧
      t.config.wearL = imageByte image 17 ∧ t.config.wearF = imageByte image 18 ∧
      (∀ e : ElemNo, (t.elem e).isSome = true ↔ e.val < imageByte image 2) ∧
      ∀ (e : ElemNo) (x : Element), t.elem e = some x →
        (x.cls = .latching ↔ imageByte image (19 + 6 * e) = 1) ∧
        (x.cls = .failsafe ↔ imageByte image (19 + 6 * e) = 2) ∧
        (x.cls = .solidState ↔ imageByte image (19 + 6 * e) = 3) ∧
        x.throws = imageByte image (20 + 6 * e) ∧
        x.cascaded = (imageByte image (21 + 6 * e)).testBit 7 ∧
        (x.park.isSome = (imageByte image (21 + 6 * e)).testBit 6) ∧
        (∀ p, x.park = some p → p.val = imageByte image (21 + 6 * e) % 16) ∧
        x.baseWear = imageByte image (22 + 6 * e) * 65536 + imageByte image (23 + 6 * e) * 256 +
          imageByte image (24 + 6 * e) ∧
        x.wear = x.baseWear ∧ x.recordSafe t.config ∧
        x.state = .free ∧ x.owner = none ∧ x.target = none ∧ x.retry = false ∧
        x.releaseOnCompletion = false ∧ x.mismatchRun = 0 ∧ x.faultLatch = false ∧
        x.commanded = none ∧ x.sensed = .noContact ∧ x.hold = none ∧
        (x.half = if x.cascaded then .unknown else .absent)

/-! ### Position sense (section 5) -/

/-- The sensed value that contacts give an element (R57); and a read stores the value of every element of the
group it reads, in every element state. It judges no element that is FREE, CLAIMED, WAITING, MOVING or in FAULT,
nor one RETURNING whose D has not expired, and none of the other group: nothing of such an element changes but
its sensed throw, where it is read, and the time its claim has left, so long as no move is left that could be
granted. With every element FREE, as in the group 0 read in SEEDING, a read does nothing but store. The reads
are counted, which alternates the groups, and the elements are judged one after another in ascending number,
each on the state that the one before left (O10 to O12): that order, and with it the order of the retries and
frames that one read queues, is inferred, since the manual gives the order of the captures only (log entry 9). That
the command brings the clock, and every timer, to the read's instant is the model's choice (log entry 4). -/
def Obligations.ReadStoresSensedThrow : Prop :=
  (∀ (n : Nat) (c : ThrowSet) (k : Throw), n ≤ 12 →
    (sensedOf n c = .throw k ↔
      k.val < n ∧ inSet c k = true ∧ ∀ j : Throw, j.val < n → inSet c j = true → j = k) ∧
    (sensedOf n c = .noContact ↔ ∀ j : Throw, j.val < n → inSet c j = false) ∧
    (sensedOf n c = .multi ↔
      ∃ i j : Throw, i ≠ j ∧ i.val < n ∧ j.val < n ∧ inSet c i = true ∧ inSet c j = true)) ∧
  ∀ (contacts : List ThrowSet) (s : State), contacts.length = 8 → s.scanClock.isSome = true →
    ¬(s.nodeState = .seeding ∧ s.scanReads % 2 = 1) → s.arbiterSafe →
    ∃ t, exec (.senseGroupRead contacts) s = .next t ∧
      t = (allElems.filter (fun e => e.val / 8 == s.scanReads % 2)).foldl (fun u e => u.judge e)
        (s.afterStore contacts) ∧
      (∀ (u : State) (e : ElemNo), (∀ x, u.elem e = some x → x.judged = false) → u.judge e = u) ∧
      t.scanReads = s.scanReads + 1 ∧
      t.scanClock = (s.elapse s.untilRead).scanClock ∧
      (∀ now, s.scanClock = some now → now ≤ 5 * s.scanReads →
        t.scanClock = some (5 * s.scanReads)) ∧
      ((∀ (e : ElemNo) (x : Element), s.elem e = some x → x.state = .free) → t = s.afterStore contacts) ∧
      ∀ (e : ElemNo) (x : Element), (s.afterStore contacts).elem e = some x →
        (∃ y, t.elem e = some y ∧ y.sensed = x.sensed) ∧
        (e.val / 8 ≠ s.scanReads % 2 ∨ x.state = .free ∨ x.state = .claimed ∨ x.state = .waiting ∨
            x.state = .moving ∨ x.state = .fault ∨ x.state = .returning ∧ x.verifyDue = false →
          x.state ≠ .waiting ∧ x.state ≠ .returning ∨ ¬s.grantable →
          t.elem e = some x)

/-- The exposure watch: a read of a SET or LIVE element that shows its commanded throw sets the mismatch run to
0, a first one that does not sets it to 1, and a second in a row takes the element to FAULT with its latch set
and its owner, commanded throw, half memory and hold kept. That the command brings the clock to its instant is the
model's choice (log entry 4). -/
def Obligations.ReadWatchesExposedElement : Prop :=
  ∀ (contacts : List ThrowSet) (s : State), contacts.length = 8 → s.scanClock.isSome = true →
    s.nodeState ≠ .seeding → s.arbiterSafe →
    ∃ t, exec (.senseGroupRead contacts) s = .next t ∧
      ∀ (e : ElemNo) (x : Element), (s.afterStore contacts).elem e = some x → x.exposed = true →
        e.val / 8 = s.scanReads % 2 →
        t.elem e = some (
          if x.commanded.map Sensed.throw = some x.sensed then { x with mismatchRun := 0 }
          else if x.mismatchRun = 0 then { x with mismatchRun := 1 }
          else { x with
            state := .fault, target := none, stepTarget := false, retry := false, mismatchRun := 0
            verifyDue := false, faultLatch := true })

/-- A drop-out, of any element its read judges, on the state that the judgement of the lower numbered elements
of its group left. The fault record, if it is empty, takes DropOut with the element and the handle and its
NOTICE is queued; a record that holds a fault counts a later one. In RUNNING a BREAK with the node's mask is
queued and the quench line is driven until that BREAK is accounted for, unless a BREAK for the handle still
waits in the transmit queue, which covers the drop-out. In RESTARTING no BREAK is queued and no drive is asked
for. That the command brings the clock to the read's instant is the model's choice (log entry 4). The second
part says the same of two elements that drop out on one read, and no other judged: captured in ascending order,
with one BREAK if their handles are one and two if not. The manual gives the ascending order for the captures; that
the elements are judged whole in that order, and the BREAKs queued in it, is inferred (log entry 9). -/
def Obligations.DropOutQueuesBreak : Prop :=
  (∀ (contacts : List ThrowSet) (s u : State) (e : ElemNo) (x : Element) (o : Owner),
    contacts.length = 8 → s.scanClock.isSome = true → s.nodeState ≠ .seeding →
    e.val / 8 = s.scanReads % 2 → u = s.judgedBelow contacts e →
    u.elem e = some x → x.exposed = true → x.mismatchRun ≠ 0 →
    x.owner = some o → x.commanded.map Sensed.throw ≠ some x.sensed →
    let first := u.fault.kind = none
    let breaks := u.nodeState = .running ∧ u.txQueue.any (TxEntry.isBreakOf o.handle) = false
    let failed : State := { u with
      elems := u.elems.set e (some { x with
        state := .fault, target := none, stepTarget := false, retry := false, mismatchRun := 0
        verifyDue := false, faultLatch := true })
      fault := if first then ⟨some .dropOut, some e, some o.handle, 0⟩
        else { u.fault with later := min (u.fault.later + 1) 15 } }
    ∃ t, exec (.senseGroupRead contacts) s = .next (t.judgeAbove e) ∧
      (u.roomFor 2 →
        t = { failed with
          breaksOut := if breaks then u.breaksOut ++ [o.handle] else u.breaksOut
          txQueue := u.txQueue ++
            (if first then [⟨.frame (.notice .faultCaptured none 2), false, false⟩] else []) ++
            (if breaks then [⟨.frame (.brk o.handle o.mask 19), false, false⟩] else []) } ∧
        (breaks → t.quenchDriven = true)) ∧
      (¬breaks →
        t = { failed with txQueue := t.txQueue, txDrops := t.txDrops, restart := t.restart } ∧
        (¬first → t = failed))) ∧
  ∀ (contacts : List ThrowSet) (s u : State) (e f : ElemNo) (x y : Element) (o p : Owner),
    contacts.length = 8 → s.scanClock.isSome = true → s.nodeState = .running → e < f →
    e.val / 8 = s.scanReads % 2 → f.val / 8 = s.scanReads % 2 → u = s.afterStore contacts →
    (∀ (g : ElemNo) (z : Element), u.elem g = some z → g ≠ e → g ≠ f → g.val / 8 = e.val / 8 →
      z.judged = false) →
    u.elem e = some x → x.exposed = true → x.mismatchRun ≠ 0 → x.owner = some o →
    x.commanded.map Sensed.throw ≠ some x.sensed →
    u.elem f = some y → y.exposed = true → y.mismatchRun ≠ 0 → y.owner = some p →
    y.commanded.map Sensed.throw ≠ some y.sensed →
    s.fault.kind = none → s.roomFor 3 → s.txQueue.any (TxEntry.isBreakOf o.handle) = false →
    s.txQueue.any (TxEntry.isBreakOf p.handle) = false →
    let failed (z : Element) : Element := { z with
      state := .fault, target := none, stepTarget := false, retry := false, mismatchRun := 0
      verifyDue := false, faultLatch := true }
    exec (.senseGroupRead contacts) s = .next { u with
      elems := (u.elems.set e (some (failed x))).set f (some (failed y))
      fault := ⟨some .dropOut, some e, some o.handle, 1⟩
      breaksOut := s.breaksOut ++ [o.handle] ++ if o.handle = p.handle then [] else [p.handle]
      txQueue := s.txQueue ++
        [⟨.frame (.notice .faultCaptured none 2), false, false⟩,
          ⟨.frame (.brk o.handle o.mask 19), false, false⟩] ++
        if o.handle = p.handle then [] else [⟨.frame (.brk p.handle p.mask 19), false, false⟩] }

/-- The verify read of a VERIFYING element, on the state that the judgement of the lower numbered elements of
its group left. A match takes it to SET and, in RUNNING, queues HOPSTAT Ready: for its hop alone if the target
was a step's, and else for the node's mask once every element held for the handle is SET. A first mismatch sends
it back to WAITING with the retry flag set, the half memory of a cascaded element UNKNOWN and its move queued
again in the owner's lane. A second one takes it to FAULT, a cascaded half memory UNKNOWN again, with Stuck
captured, or counted behind an earlier fault, and, in RUNNING, HOPSTAT Fault queued for its hop. In RESTARTING
no HOPSTAT is queued. That the elements of the group are judged in ascending order, and so the order of the
HOPSTATs and retries of one read, is inferred (log entry 9); that the command brings the clock to the read's instant
is the model's choice (log entry 4). -/
def Obligations.ReadVerifiesMove : Prop :=
  ∀ (contacts : List ThrowSet) (s u : State) (e : ElemNo) (x : Element) (o : Owner) (k : Throw),
    contacts.length = 8 → s.scanClock.isSome = true → s.nodeState ≠ .seeding →
    e.val / 8 = s.scanReads % 2 → u = s.judgedBelow contacts e →
    u.elem e = some x → x.state = .verifying → x.owner = some o →
    x.target = some k →
    let isSet : State := { u with
      elems := u.elems.set e (some { x with
        state := .set, target := none, stepTarget := false, retry := false, mismatchRun := 0 }) }
    let first := u.fault.kind = none
    let notice : TxEntry := ⟨.frame (.notice .faultCaptured none 1), false, false⟩
    let stuck : State := { u with
      elems := u.elems.set e (some { x with
        state := .fault, target := none, stepTarget := false, retry := false, mismatchRun := 0
        verifyDue := false, faultLatch := true
        half := if x.cascaded = true then .unknown else x.half })
      fault := if first then ⟨some .stuck, some e, some o.handle, 0⟩
        else { u.fault with later := min (u.fault.later + 1) 15 } }
    ∃ t, exec (.senseGroupRead contacts) s = .next (t.judgeAbove e) ∧
      (x.commanded.map Sensed.throw = some x.sensed →
        (u.nodeState ≠ .running → t = isSet) ∧
        (u.nodeState = .running → u.roomFor 1 →
          t = { isSet with
            txQueue := u.txQueue ++
              (if x.stepTarget = true then
                [⟨.frame (.hopstat o.handle (hopBit o.hop) .ready 0 x.wearWarning), false, false⟩]
              else if t.allSet o.handle = true then
                [⟨.frame (.hopstat o.handle o.mask .ready 0 (t.wearOf o.handle)), false, false⟩]
              else []) })) ∧
      (x.commanded.map Sensed.throw ≠ some x.sensed → x.retry = false →
        t = State.queueMove
          { u with
            elems := u.elems.set e (some { x with
              state := .waiting, retry := true
              half := if x.cascaded = true then .unknown else x.half }) } e k o.lane) ∧
      (x.commanded.map Sensed.throw ≠ some x.sensed → x.retry = true →
        (u.nodeState = .running → u.roomFor 2 →
          t = { stuck with
            txQueue := u.txQueue ++ (if first then [notice] else []) ++
              [⟨.frame (.hopstat o.handle (hopBit o.hop) .fault 9 false), false, false⟩] }) ∧
        (u.nodeState ≠ .running → ¬first → t = stuck) ∧
        (u.nodeState ≠ .running → first → u.roomFor 1 →
          t = { stuck with txQueue := u.txQueue ++ [notice] }) ∧
        (u.nodeState ≠ .running →
          t = { stuck with txQueue := t.txQueue, txDrops := t.txDrops, restart := t.restart } ∧
          ∀ y ∈ t.txQueue, y ∈ u.txQueue ∨ y = notice ∨
            y ∈ ((u.restart.map (·.waiting)).getD []).map (fun f => ⟨.frame f, false, false⟩)))

/-- The verify read of a RETURNING element whose D has expired, on the state that the judgement of the lower
numbered elements of its group left, in RUNNING and in RESTARTING alike: FREE on a match; its move queued again
in lane 7 with the retry flag set on a first mismatch; FAULT with Stuck captured, and no handle, or counted
behind an earlier fault, on a second. Either mismatch makes a cascaded half memory UNKNOWN. No HOPSTAT is queued
in any outcome. That the elements of the group are judged in ascending order, and so the arrival order of the retries
of one read, is inferred (log entry 9); that the command brings the clock to the read's instant is the model's choice
(log entry 4). -/
def Obligations.ReadVerifiesReturn : Prop :=
  ∀ (contacts : List ThrowSet) (s u : State) (e : ElemNo) (x : Element) (k : Throw),
    contacts.length = 8 → s.scanClock.isSome = true → s.nodeState ≠ .seeding →
    e.val / 8 = s.scanReads % 2 → u = s.judgedBelow contacts e →
    u.elem e = some x → x.state = .returning → x.verifyDue = true →
    x.owner = none → x.target = some k →
    let first := u.fault.kind = none
    let notice : TxEntry := ⟨.frame (.notice .faultCaptured none 1), false, false⟩
    let stuck : State := { u with
      elems := u.elems.set e (some { x with
        state := .fault, target := none, stepTarget := false, retry := false, mismatchRun := 0
        verifyDue := false, faultLatch := true
        half := if x.cascaded = true then .unknown else x.half })
      fault := if first then ⟨some .stuck, some e, none, 0⟩
        else { u.fault with later := min (u.fault.later + 1) 15 } }
    ∃ t, exec (.senseGroupRead contacts) s = .next (t.judgeAbove e) ∧
      (x.commanded.map Sensed.throw = some x.sensed →
        t = { u with elems := u.elems.set e (some { x with
          state := .free, target := none, stepTarget := false, retry := false
          releaseOnCompletion := false, mismatchRun := 0, verifyDue := false }) }) ∧
      (x.commanded.map Sensed.throw ≠ some x.sensed → x.retry = false →
        t = State.queueMove
          { u with
            elems := u.elems.set e (some { x with
              retry := true, verifyDue := false
              half := if x.cascaded = true then .unknown else x.half }) } e k 7) ∧
      (x.commanded.map Sensed.throw ≠ some x.sensed → x.retry = true →
        (¬first → t = stuck) ∧
        (first → u.roomFor 1 → t = { stuck with txQueue := u.txQueue ++ [notice] }) ∧
        t = { stuck with txQueue := t.txQueue, txDrops := t.txDrops, restart := t.restart } ∧
        ∀ y ∈ t.txQueue, y ∈ u.txQueue ∨ y = notice ∨
          y ∈ ((u.restart.map (·.waiting)).getD []).map (fun f => ⟨.frame f, false, false⟩))

/-- The group 1 read that ends the first full loop, in SEEDING with every element FREE, as every state in SEEDING has
them by the law of the arbiter that each step keeps (O54): each element takes its
sensed throw as commanded throw, where it is valid, and a cascaded one its half; the start-up drive reason ends,
the node enters RUNNING, queues NOTICE Started and begins to listen. That the command brings the clock to the
read's instant is the model's choice (log entry 4). -/
def Obligations.FirstLoopSeedsAndRuns : Prop :=
  ∀ (contacts : List ThrowSet) (s : State), contacts.length = 8 → s.scanClock.isSome = true →
    s.nodeState = .seeding → s.scanReads % 2 = 1 → s.roomFor 1 →
    (∀ (e : ElemNo) (x : Element), s.elem e = some x → x.state = .free) →
    ∃ t, exec (.senseGroupRead contacts) s = .next t ∧
      t = { s.afterStore contacts with
        elems := t.elems, nodeState := .running, startUpDrive := false, lineState := .seeking
        txQueue := s.txQueue ++ [⟨.frame (.notice .started none 0), false, false⟩] } ∧
      ∀ e : ElemNo, t.elem e = ((s.afterStore contacts).elem e).map (fun x =>
        let c := match x.sensed with
          | .throw k => some k
          | .noContact => none
          | .multi => none
        { x with
          commanded := c
          half := if x.cascaded = true then
              (match c with
                | some k => if k.val < (x.throws + 1) / 2 then .zero else .one
                | none => .unknown)
            else x.half })

/-! ### Move timing and the drive arbiter (sections 3 and 4) -/

/-- The pulse count of a move: none for an S element and a return to throw 0, one for a pull-in and for an L
element whose half memory is the target's or that is not cascaded, two for a cascaded L element whose half
memory differs or is UNKNOWN. It does not depend on the commanded throw, and it is the count that the move's
service record takes at its start. -/
def Obligations.PulseCountOfMove : Prop :=
  (∀ (x : Element) (t : Throw) (c : Option Throw),
    let half : Half := if t.val < (x.throws + 1) / 2 then .zero else .one
    (x.cls = .solidState → x.pulseCount t = 0) ∧
    (x.cls = .failsafe → t = 0 → x.pulseCount t = 0) ∧
    (x.cls = .failsafe → t ≠ 0 → x.pulseCount t = 1) ∧
    (x.cls = .latching → x.cascaded = false → x.pulseCount t = 1) ∧
    (x.cls = .latching → x.cascaded = true → x.half = half → x.pulseCount t = 1) ∧
    (x.cls = .latching → x.cascaded = true → x.half ≠ half → x.pulseCount t = 2) ∧
    Element.pulseCount { x with commanded := c } t = x.pulseCount t) ∧
  ∀ (s : State) (m : MoveEntry) (ch : Option ChannelNo) (x : Element), s.elem m.elem = some x →
    ∃ d, (s.startMove m ch).services =
      s.services ++ [⟨m.elem, m.target, m.lane, x.pulseCount m.target, d, ch, d⟩]

/-- The move duration D of a move that starts, from figures within their ranges, as those of an image in use are by
the law of the element records (O55): the sum of R28, raised to 1 or
cut to 1000. The lower clamp is for a move without pulses and a settle base of 0 only, the largest sum is 1005
and is reached only by a cascaded L retry with both figures at 250, and the pulses end at or before D. -/
def Obligations.MoveDurationOfMove : Prop :=
  ∀ (s : State) (m : MoveEntry) (ch : Option ChannelNo) (x : Element), s.elem m.elem = some x →
    1 ≤ s.config.pL → s.config.pL ≤ 250 → s.config.sL ≤ 250 →
    1 ≤ s.config.pF → s.config.pF ≤ 250 → s.config.sF ≤ 250 → s.config.sS ≤ 250 →
    let n := x.pulseCount m.target
    let p := match x.cls with
      | .latching => s.config.pL
      | .failsafe => s.config.pF
      | .solidState => 0
    let q := match x.cls with
      | .latching => s.config.sL
      | .failsafe => s.config.sF
      | .solidState => s.config.sS
    let pulsing := n * p + (if n = 2 then 5 else 0)
    let sum := pulsing + (if x.retry = true then 2 else 1) * q
    let d := if sum < 1 then 1 else if 1000 < sum then 1000 else sum
    (s.startMove m ch).services = s.services ++ [⟨m.elem, m.target, m.lane, n, d, ch, d⟩] ∧
      1 ≤ d ∧ d ≤ 1000 ∧ (sum < 1 → n = 0 ∧ q = 0) ∧ sum ≤ 1005 ∧
      (sum = 1005 → x.cls = .latching ∧ x.cascaded = true ∧ x.retry = true ∧ p = 250 ∧ q = 250) ∧
      pulsing ≤ 505 ∧ pulsing ≤ d

/-- One grant: of the pending moves that need a channel and whose lanes are not held, the one in the lane
highest in the lane priority order, and within that lane the earliest in arrival order. Its entry leaves the
queue, the element is commanded to the target, going from WAITING to MOVING, with all else of its record as it was,
and an IDLE channel goes to PULSING for it; nothing else changes. -/
def Obligations.GrantTakesHighestLaneEarliest : Prop :=
  ∀ s : State, s.arbiterSafe → s.grantable →
    ∃ (i : Nat) (m : MoveEntry) (c : ChannelNo) (x : Element),
      s.moveQueue[i]? = some m ∧ m.needsChannel = true ∧ laneHeld s.laneHold m.lane = false ∧
      (∀ (j : Nat) (m' : MoveEntry), s.moveQueue[j]? = some m' → m'.needsChannel = true →
        laneHeld s.laneHold m'.lane = false →
        laneRank s.orderHead m.lane < laneRank s.orderHead m'.lane ∨ m.lane = m'.lane ∧ i ≤ j) ∧
      s.channel c = .idle ∧ s.elem m.elem = some x ∧
      s.grantOne = { s with
        moveQueue := s.moveQueue.eraseIdx i
        elems := s.elems.set m.elem (some { x with
          commanded := some m.target, state := if x.state = .waiting then .moving else x.state })
        services := s.services ++ [⟨m.elem, m.target, m.lane, x.pulseCount m.target,
          moveDuration s.config x (x.pulseCount m.target), some c,
          moveDuration s.config x (x.pulseCount m.target)⟩]
        channels := s.channels.set c (.pulsing m.elem m.target m.lane (x.pulseCount m.target)
          (if x.pulseCount m.target = 2 then .front else .last)
          (pulsingUnits s.config x.cls (x.pulseCount m.target))) }

/-- A move's start at the element: it is commanded to the target and goes from WAITING to MOVING, a RETURNING one
staying so; for an F element's return to throw 0 the hold is inactive and the wear count one higher, with the warning
that gives, at the start already; nothing else of the record changes. A move that is queued joins at the back of the
arrival order, marked by its class and target. It stays there while the node is not RUNNING, while its lane is held,
and, if it needs a channel, while COILOK is low or no channel is IDLE. It is started at that moment otherwise, with its
service record, an S element's control inputs taking its target; a move that needs a channel takes one that was IDLE,
which goes to PULSING for it, and no other channel changes. -/
def Obligations.QueuedMoveWaitsOrStarts : Prop :=
  (∀ (cfg : ImageConfig) (k : Throw) (x : Element),
    let wear := min (x.wear + 1) 16777215
    let y : Element := { x with
      commanded := some k, state := if x.state = .waiting then .moving else x.state }
    x.startMove cfg k =
      if x.cls = .failsafe ∧ k = 0 then
        { y with hold := none, wear := wear, wearWarning := warningOf cfg .failsafe wear }
      else y) ∧
  ∀ (s : State) (e : ElemNo) (x : Element) (k : Throw) (lane : Lane), ¬s.grantable →
    s.elem e = some x → s.hasEntry e = false →
    let needs := x.cls = .latching ∨ x.cls = .failsafe ∧ k ≠ 0
    let n := x.pulseCount k
    let d := moveDuration s.config x n
    let t := s.queueMove e k lane
    (s.nodeState ≠ .running ∨ laneHeld s.laneHold lane = true ∨
        needs ∧ (s.coilOk = false ∨ ∀ c, s.channel c ≠ .idle) →
      t = { s with moveQueue := s.moveQueue ++ [⟨e, k, lane, decide needs⟩] }) ∧
    (s.nodeState = .running → laneHeld s.laneHold lane = false →
      let started (ch : Option ChannelNo) : State := { s with
        elems := s.elems.set e (some (x.startMove s.config k))
        services := s.services ++ [⟨e, k, lane, n, d, ch, d⟩]
        controls := if x.cls = .solidState then s.controls.set e k else s.controls }
      (¬needs → t = started none) ∧
      (needs → s.coilOk = true → (∃ c, s.channel c = .idle) →
        ∃ c, s.channel c = .idle ∧
          t = { started (some c) with
            channels := s.channels.set c (.pulsing e k lane n (if n = 2 then .front else .last)
              (pulsingUnits s.config x.cls n)) }))

/-- The pulses of a move on its channel. The end of the front pulse begins the gap, in which no coil is driven;
the end of the gap begins the pulse on the coil of the target throw; the end of the last pulse sends the channel
to RECOVERING for 10 units, updates half memory or hold and the wear count, and in rotating mode makes the
move's lane the lowest. The time the channel has left before each event passes with it (log entry 4). -/
def Obligations.ChannelPulsesInTurn : Prop :=
  ∀ (s : State) (ch : ChannelNo) (e : ElemNo) (x : Element) (k : Throw) (lane : Lane) (n left : Nat),
    s.elem e = some x →
    (s.channel ch = .pulsing e k lane n .front left →
      let u := s.elapse (left - (s.config.pL + 5))
      ∃ t, exec (.cascadeFrontPulseEnd ch) s = .next t ∧
        t = { u with
          channels := u.channels.set ch (.pulsing e k lane n .gap (min left (s.config.pL + 5))) } ∧
        s.coilOf (s.channel ch) =
          .front e (if k.val < (x.throws + 1) / 2 then .zero else .one) ∧
        t.coilOf (t.channel ch) = .none) ∧
    (s.channel ch = .pulsing e k lane n .gap left →
      let u := s.elapse (left - s.config.pL)
      ∃ t, exec (.cascadeGapEnd ch) s = .next t ∧
        t = { u with
          channels := u.channels.set ch (.pulsing e k lane n .last (min left s.config.pL)) } ∧
        t.coilOf (t.channel ch) = .throw e k) ∧
    (s.channel ch = .pulsing e k lane n .last left →
      let u := s.elapse left
      let w := min (x.wear + if x.cls = .latching then n else if x.cls = .failsafe then 1 else 0)
        16777215
      ∃ t, exec (.pulsingEnd ch) s = .next t ∧
        t = { u with
          elems := t.elems, channels := u.channels.set ch (.recovering 10)
          orderHead := if s.config.rotating = true then lane + 1 else s.orderHead } ∧
        (∀ f : ElemNo, f ≠ e → t.elem f = u.elem f) ∧
        (x.cls = .latching → t.elem e = some { x.elapse left with
          half := if x.cascaded = true then
            (if k.val < (x.throws + 1) / 2 then .zero else .one) else x.half
          wear := w, wearWarning := warningOf s.config .latching w }) ∧
        (x.cls = .failsafe → t.elem e = some { x.elapse left with
          hold := some k, wear := w, wearWarning := warningOf s.config .failsafe w }) ∧
        t.coilOf (t.channel ch) = .none)

/-- COILOK_RISE, and the end of a channel's recovery, after which that channel is IDLE: the arbiter makes every
grant it can, one after another, each the single grant of O16 from the state that the one before it left, until
none is left to make. Only elements whose moves were pending change, by starting, and no other channel that was
busy changes; where no grant can be made, nothing else changes. The time the recovery has left passes with its
end, which is the model's choice (log entry 4). -/
def Obligations.RiseAndRecoveryEndGrant : Prop :=
  ∀ (s u : State) (c : Instr), s.arbiterSafe →
    (c = .coilokRise ∧ u = { s with coilOk := true } ∨
      ∃ (ch : ChannelNo) (left : Nat), c = .channelRecoveryEnd ch ∧
        s.channel ch = .recovering left ∧
        u = { s.elapse left with channels := (s.elapse left).channels.set ch .idle }) →
    ∃ t, exec c s = .next t ∧
      t = { u with
        elems := t.elems, moveQueue := t.moveQueue, services := t.services, channels := t.channels } ∧
      (∃ n : Fin 5, t = State.grantOne^[n.val] u ∧
        ∀ k : Fin 4, k.val < n.val →
          (State.grantOne^[k.val] u).grantable ∧ (State.grantOne^[k.val] u).arbiterSafe) ∧
      ¬t.grantable ∧ (¬u.grantable → t = u) ∧ (u.grantable → t.moveQueue.length < u.moveQueue.length) ∧
      (∀ d : ChannelNo, (u.channel d).busy = true → t.channel d = u.channel d) ∧
      ∀ e : ElemNo, if t.hasEntry e = u.hasEntry e then t.elem e = u.elem e
        else t.hasService e = true ∧ u.hasEntry e = true

/-- COILOK_FALL: with a channel PULSING, SupplyLost is captured once, with no location and no handle, whatever room
the transmit queue has for its NOTICE; with none PULSING nothing is captured. No channel and no move is touched.
Each further fall while a channel is PULSING is captured again, and a rise captures and clears nothing. -/
def Obligations.CoilFallCapturesSupplyLost : Prop :=
  ∀ s : State,
    (s.coilOk = true →
      ((∀ c, (s.channel c).isPulsing = false) →
        exec .coilokFall s = .next { s with coilOk := false }) ∧
      ((∃ c, (s.channel c).isPulsing = true) → s.roomFor 1 → s.fault.kind = none →
        exec .coilokFall s = .next { s with
          coilOk := false, fault := ⟨some .supplyLost, none, none, 0⟩
          txQueue := s.txQueue ++ [⟨.frame (.notice .faultCaptured none 3), false, false⟩] }) ∧
      ((∃ c, (s.channel c).isPulsing = true) → s.fault.kind.isSome = true →
        exec .coilokFall s = .next { s with
          coilOk := false, fault := { s.fault with later := min (s.fault.later + 1) 15 } }) ∧
      ((∃ c, (s.channel c).isPulsing = true) → s.fault.kind = none →
        ∃ t, exec .coilokFall s = .next t ∧ t = { s with
          coilOk := false, fault := ⟨some .supplyLost, none, none, 0⟩, txQueue := t.txQueue
          txDrops := t.txDrops, restart := t.restart })) ∧
    ∃ t, exec .coilokRise s = .next t ∧ t.coilOk = true ∧ t.fault = s.fault ∧ t.txQueue = s.txQueue

/-- Release processing of an element, in the order of its steps: its owner goes, the retry and
release-on-completion flags and the mismatch run are cleared; with the latch set it goes to FAULT; an F element
not commanded to 0 or with a hold active returns to 0, an L or S element not commanded to its park throw moves
there, each RETURNING with a move queued in lane 7; any other goes to FREE. -/
def Obligations.ReleaseProcessingSteps : Prop :=
  ∀ (s : State) (e : ElemNo) (x : Element), s.elem e = some x →
    let y := { x with
      owner := none, retry := false, releaseOnCompletion := false, mismatchRun := 0
      stepTarget := false, verifyDue := false }
    let back : Option Throw :=
      if x.cls = .failsafe then (if x.commanded ≠ some 0 ∨ x.hold ≠ none then some 0 else none)
      else if x.commanded ≠ x.park then x.park else none
    s.release e =
      if x.faultLatch = true then
        { s with elems := s.elems.set e (some { y with state := .fault, target := none }) }
      else match back with
        | some k => State.queueMove
            { s with elems := s.elems.set e (some { y with state := .returning, target := some k }) } e k 7
        | none => { s with elems := s.elems.set e (some { y with state := .free, target := none }) }

/-- MOVE_D_EXPIRES, once no channel pulses for the element: the service record goes and the element is acted on
by its state. MOVING goes to VERIFYING, or, where its release-on-completion flag is set and its owner absent, takes
release processing from its second step: FAULT with the latch set, RETURNING with the move back in lane 7, its mismatch
run as it was, or FREE. RETURNING awaits its verify read. While a channel still pulses for it the command is
no event, and the time D has left passes with it: these two are the model's choices (log entries 5 and 4). -/
def Obligations.MoveDurationExpires : Prop :=
  ∀ (s u : State) (e : ElemNo) (v : Service) (x : Element),
    s.services.find? (fun r => r.elem == e) = some v →
    u = { s.elapse v.left with
      services := (s.elapse v.left).services.filter (fun r => r.elem != e) } →
    u.elem e = some x →
    ((∃ c, (s.channel c).pulses e = true) → exec (.moveDExpires e) s = .next s) ∧
    ((∀ c, (s.channel c).pulses e = false) →
      ∃ t, exec (.moveDExpires e) s = .next t ∧
        (x.state = .moving → x.releaseOnCompletion = false →
          t = { u with elems := u.elems.set e (some { x with state := .verifying }) }) ∧
        (x.state = .moving → x.releaseOnCompletion = true → x.owner = none →
          let y := { x with
            target := none, retry := false, releaseOnCompletion := false, stepTarget := false
            verifyDue := false }
          let back : Option Throw :=
            if x.cls = .failsafe then (if x.commanded ≠ some 0 ∨ x.hold ≠ none then some 0 else none)
            else if x.commanded ≠ x.park then x.park else none
          t = if x.faultLatch = true then
              { u with elems := u.elems.set e (some { y with state := .fault, mismatchRun := 0 }) }
            else match back with
              | some k => State.queueMove
                  { u with elems := u.elems.set e (some { y with state := .returning, target := some k }) }
                  e k 7
              | none => { u with elems := u.elems.set e (some { y with state := .free, mismatchRun := 0 }) }) ∧
        (x.state = .returning →
          t = { u with elems := u.elems.set e (some { x with verifyDue := true }) }))

/-! ### Claims, slot timers, triggers and the quench line (sections 7.4, 8, 9 and 10) -/

/-- The tentative claims for a handle end together, each element FREE with owner and target absent: when their
timer expires, with one HOPSTAT Refused NoAnchor for the node's mask queued in RUNNING and none otherwise, and
when the anchor's REFUSE is seen, with no frame. Confirmed claims and other handles' elements stay.
The time the claim has left passes with the expiry, which is the model's choice (log entry 4). -/
def Obligations.TentativeClaimsDropped : Prop :=
  (∀ (s : State) (h : Handle) (left : Nat),
    (∃ e x, s.elem e = some x ∧ x.claimedFor h = true) →
    (∀ (e : ElemNo) (x : Element), s.elem e = some x → x.claimedFor h = true →
      x.owner.bind (·.claimTimer) = some left) →
    ∃ t, exec (.tentativeClaimTimerExpiry h) s = .next t ∧
      (∀ f : ElemNo, t.elem f = (s.elem f).map (fun y =>
        if y.claimedFor h = true then y.toFree else y.elapse left)) ∧
      (s.nodeState = .running → s.roomFor 1 →
        t = { s.elapse left with
          elems := t.elems
          txQueue := s.txQueue ++
            [⟨.frame (.hopstat h (s.maskOf h) .refused 8 false), false, false⟩] }) ∧
      (s.nodeState ≠ .running → t = { s.elapse left with elems := t.elems })) ∧
  ∀ (s : State) (h : Handle) (r : ReasonCode),
    s.headFrame = some ⟨h.anchor, .refuse h r⟩ → s.nodeState = .running →
    ∃ t, exec .frameSeenRefuse s = .next t ∧
      t = { s with rxQueue := s.rxQueue.tail, elems := t.elems } ∧
      ∀ f : ElemNo, t.elem f = (s.elem f).map (fun y =>
        if y.claimedFor h = true then y.toFree else y)

/-- The timers of a slot in a RUNNING node. The setup/step timer ends the path with SetupTimeout from
COLLECTING and StepTimeout from STEPPING; the quench timer with purpose release ends it with the slot's release
reason: RELEASE is queued, both timers stop and the slot enters RELEASING with its hops and ready set kept. The
quench timer with purpose step queues the COLD that names the last hop and the step throw, which the hop list
takes; the last hop leaves the ready set, the step timer starts and the slot enters STEPPING. The
time a timer has left passes with its expiry, which is the model's choice (log entry 4). -/
def Obligations.SlotTimersExpire : Prop :=
  ∀ (s : State) (g : Gate) (left : Nat), s.nodeState = .running → s.roomFor 1 →
    let u := s.elapse left
    let sl := u.slot g
    let released (r : Reason) := { u with
      slots := u.slots.set g { sl with
        state := .releasing, timer := none, quenchTimer := none, purpose := none, stepThrow := none
        releaseReason := some r }
      txQueue := s.txQueue ++ [⟨.frame (.release ⟨s.address, g⟩ r.code), false, false⟩] }
    ((s.slot g).timer = some left → sl.state = .collecting →
      exec (.setupStepTimerExpiry g) s = .next (released .setupTimeout)) ∧
    ((s.slot g).timer = some left → sl.state = .stepping →
      exec (.setupStepTimerExpiry g) s = .next (released .stepTimeout)) ∧
    (∀ r, (s.slot g).quenchTimer = some left → sl.state = .quenching → sl.purpose = some .release →
      sl.releaseReason = some r → exec (.quenchTimerExpiryRelease g) s = .next (released r)) ∧
    (∀ k, (s.slot g).quenchTimer = some left → sl.state = .quenching → sl.purpose = some .step →
      sl.stepThrow = some k → 1 ≤ sl.hops.length → sl.hops.length ≤ 8 →
      ∃ t, exec (.quenchTimerExpiryStep g) s = .next t ∧
        t = { u with
          slots := u.slots.set g { sl with
            state := .stepping, hops := (t.slot g).hops
            ready := sl.ready &&& ~~~(BitVec.twoPow 8 (sl.hops.length - 1))
            timer := some (100 * s.config.setupTimeout), quenchTimer := none, purpose := none
            stepThrow := none }
          txQueue := s.txQueue ++ [⟨.frame (.cold ⟨s.address, g⟩
            (.step (Fin.ofNat 8 (sl.hops.length - 1)) k)), false, false⟩] } ∧
        (t.slot g).hops.length = sl.hops.length ∧
        (t.slot g).hops.getLast? = sl.hops.getLast?.map (fun hp => { hp with throw := k }) ∧
        (t.slot g).hops.dropLast = sl.hops.dropLast)

/-- The resume timer of a HELD slot: the gate opens, HOT is queued and the slot enters HOT with its quench timer
stopped; a pending trigger is then cleared and taken in HOT at the same instant. The time the timer has left
passes with its expiry, which is the model's choice (log entry 4). -/
def Obligations.ResumeTimeReopensGate : Prop :=
  ∀ (s : State) (g : Gate) (left : Nat), s.nodeState = .running → s.roomFor 1 →
    (s.slot g).state = .held → (s.slot g).quenchTimer = some left →
    (s.slot g).purpose = some .resume →
    let u := { s.elapse left with
      slots := (s.elapse left).slots.set g { s.slot g with
        state := .hot, timer := none, quenchTimer := none, purpose := none }
      gateOut := s.gateOut.set g true
      txQueue := s.txQueue ++ [⟨.frame (.hot ⟨s.address, g⟩), false, false⟩] }
    ∃ t, exec (.resumeTimerExpiry g) s = .next t ∧
      (∀ sc, (s.slot g).scan = some sc → sc.pending = true →
        t = State.trigger { u with
          slots := u.slots.set g { u.slot g with scan := some { sc with pending := false } } } g) ∧
      (((s.slot g).scan.map (·.pending)).getD false = false → t = u)

/-- A trigger for a slot with a scan that has not ended, from the gate's input or an ADVANCE for a handle the
node anchors. In QUENCHING, STEPPING and HELD it is held pending, or counted as an overrun. In HOT it lowers the
dwell count if that is above 0; at 0 the next throw of the set is taken, and the wrap that leaves no cycle
ends the scan; a step to another throw closes the gate and starts the quench time. In COLLECTING, IDLE and
RELEASING, with no scan or an ended one, and in a node that is not RUNNING, it has no effect. -/
def Obligations.TriggerStepsScan : Prop :=
  ∀ (s u : State) (c : Instr) (g : Gate),
    (c = .triggerEdge g ∧ u = s ∨
      ∃ a, c = .frameSeenAdvance ∧ s.headFrame = some ⟨a, .advance ⟨s.address, g⟩⟩ ∧
        u = { s with rxQueue := s.rxQueue.tail }) →
    let sl := s.slot g
    ∃ t, exec c s = .next t ∧
      (s.nodeState ≠ .running → t = u) ∧
      (sl.scan = none ∨ sl.scan.any (·.ended) = true ∨ sl.state = .collecting ∨ sl.state = .idle ∨
        sl.state = .releasing → t = u) ∧
      ∀ sc, sl.scan = some sc → sc.ended = false → s.nodeState = .running → s.roomFor 1 →
        let put (sc' : Scan) := { u with slots := s.slots.set g { sl with scan := some sc' } }
        (sl.state = .quenching ∨ sl.state = .stepping ∨ sl.state = .held →
          t = put (if sc.pending = true then { sc with overrun := min (sc.overrun + 1) 255 }
            else { sc with pending := true })) ∧
        (sl.state = .hot → 0 < sc.dwell → t = put { sc with dwell := sc.dwell - 1 }) ∧
        (sl.state = .hot → sc.dwell = 0 → inSet sc.throws sc.current = true →
          ∃ (k : Throw) (wraps : Bool),
            inSet sc.throws k = true ∧
            (wraps = true ↔ ∀ j : Throw, inSet sc.throws j = true → j ≤ sc.current) ∧
            (wraps = false → sc.current < k ∧
              ∀ j : Throw, inSet sc.throws j = true → sc.current < j → k ≤ j) ∧
            (wraps = true → ∀ j : Throw, inSet sc.throws j = true → k ≤ j) ∧
            let counted := wraps = true ∧ sc.cyclesReload ≠ 0
            let sc' := { sc with
              dwell := sc.dwellReload, cycles := if counted then sc.cycles - 1 else sc.cycles }
            if counted ∧ sc.cycles ≤ 1 then
              t = { put { sc with cycles := 0, ended := true, pending := false } with
                txQueue := s.txQueue ++
                  [⟨.frame (.notice .scanEnd (some ⟨s.address, g⟩) 21), false, false⟩] }
            else if k = sc.current then t = put sc'
            else
              t = { u with
                slots := s.slots.set g { sl with
                  state := .quenching, quenchTimer := some s.config.quenchTime
                  purpose := some .step, stepThrow := some k, scan := some sc' }
                gateOut := s.gateOut.set g false })

/-- The sensed quench line in a RUNNING node. On assertion every HOT slot closes its gate and is HELD with its
quench timer stopped, COLD with purpose all queued for each in ascending gate order; a HELD slot's resume timing
stops; no other slot is touched. On release, which the node cannot sense while it drives the line, every HELD
slot starts its quench timer with purpose resume and no other slot is touched. In a node that is not RUNNING the
sensed level changes and nothing else. That the COLDs are queued in ascending gate order is inferred, not stated
by the manual (log entry 9). -/
def Obligations.QuenchLineHoldsGates : Prop :=
  (∀ s : State, s.nodeState ≠ .running →
    (s.quenchSensed = false → exec .quenchAssertionSensed s = .next { s with quenchSensed := true }) ∧
    (s.quenchSensed = true → s.quenchDriven = false →
      exec .quenchReleaseSensed s = .next { s with quenchSensed := false })) ∧
  ∀ s : State, s.nodeState = .running →
    (s.quenchSensed = false → s.roomFor 8 →
      ∃ t, exec .quenchAssertionSensed s = .next t ∧
        t = { s with
          quenchSensed := true, slots := t.slots, gateOut := t.gateOut
          txQueue := s.txQueue ++
            (allGates.filter (fun g => (s.slot g).state == .hot)).map (fun g =>
              ⟨.frame (.cold ⟨s.address, g⟩ .all), false, false⟩) } ∧
        ∀ g : Gate,
          (t.slot g = if (s.slot g).state = .hot ∨ (s.slot g).state = .held then
            { s.slot g with state := .held, quenchTimer := none, purpose := none } else s.slot g) ∧
          t.gate g = (s.gate g && (s.slot g).state != .hot)) ∧
    (s.quenchSensed = true → s.quenchDriven = false →
      ∃ t, exec .quenchReleaseSensed s = .next t ∧
        t = { s with quenchSensed := false, slots := t.slots } ∧
        ∀ g : Gate, t.slot g = if (s.slot g).state = .held then
          { s.slot g with quenchTimer := some s.config.quenchTime, purpose := some .resume }
          else s.slot g)

/-! ### The Fabric Line (section 6) -/

/-- The line interface's side of an attempt. After 140 bit times of recessive a station that had lost its place
follows the line. A node that follows it, takes frames and has no attempt under way offers the frame at the head
of the most urgent class, which is then in transmission. A lost attempt leaves the frame in its place; a frame
that a restart has removed leaves with the attempt, and a REPORT keeps its subject, whatever QUERY came
meanwhile. A won attempt sends the frame, and a REPORT reads its subject, a node's coded with index 0, and its
content at that instant: its own subject, or, where a QUERY was taken during the arbitration, that one or its
own, a free value of the model (log entry 8); the report slot keeps its own. -/
def Obligations.AttemptOffersMostUrgent : Prop :=
  ∀ (s : State) (i : Nat) (x : TxEntry) (q : Option Subject),
    (s.lineState = .seeking → exec .lineIdleResync s = .next { s with lineState := .following }) ∧
    (s.lineState = .following → s.nodeState.takesFrames = true → s.txPhase = .quiet →
      s.txQueue[i]? = some x →
      (∀ (j : Nat) (y : TxEntry), s.txQueue[j]? = some y →
        x.item.cls < y.item.cls ∨ x.item.cls = y.item.cls ∧ i ≤ j) →
      exec .txAttemptStart s = .next { s with
        txPhase := .arbitrating none, txQueue := s.txQueue.set i { x with inTransmission := true } }) ∧
    (s.txPhase = .arbitrating q →
      exec .arbitrationLost s = .next (
        if s.txQueue.any (fun y => y.inTransmission && y.leaving) = true then
          { s with
            txPhase := .quiet, txQueue := s.txQueue.filter (fun y => !y.inTransmission)
            reportSlot := if s.txQueue.any (fun y => y.inTransmission && y.item == .report) = true
              then none else s.reportSlot }
        else
          { s with
            txPhase := .quiet
            txQueue := s.txQueue.map (fun y => { y with inTransmission := false }) })) ∧
    (s.txPhase = .arbitrating q → s.txQueue.find? (fun y => y.inTransmission) = some x →
      (∀ f, x.item = .frame f →
        exec .arbitrationWon s = .next { s with txPhase := .sending f }) ∧
      (x.item = .report → ∀ u, s.reportSlot = some u →
        let coded (v : Subject) : Subject := if v.kind = 0 then ⟨0, 0⟩ else v
        (q = none → exec .arbitrationWon s = .next {
          s with txPhase := .sending (.report (coded u) (s.reportContent u)) }) ∧
        ∀ v, q = some v → ∃ replaces : Bool,
          let w := if replaces = true then v else u
          exec .arbitrationWon s = .next { s with
            freeCount := s.freeCount + 1
            txPhase := .sending (.report (coded w) (s.reportContent w)) }))

/-- The end of the node's own frame. Flagged, it is counted and keeps its place in the transmit queue for
another attempt, but for a frame that a restart's end has removed, which leaves the queue; not flagged, it
leaves the queue as sent, a REPORT empties the report slot, and the frame joins the receive queue like any
other, with no check of its form, which is inferred (log entry 13). Lost to a full receive queue, it counts as
seen for the break drive reason and for the restart's wait; RxOverrun is captured, and a RUNNING node begins a
warm restart. -/
def Obligations.OwnFrameEnds : Prop :=
  ∀ (s : State) (f : Frame), s.txPhase = .sending f →
    let sent : State := { s with
      txPhase := .quiet, txQueue := s.txQueue.filter (fun y => !y.inTransmission)
      reportSlot := if s.txQueue.any (fun y => y.inTransmission && y.item == .report) = true
        then none else s.reportSlot }
    let lost : State := { sent with
      breaksOut := match f with
        | .brk h _ r => if r = 19 then s.breaksOut.erase h else s.breaksOut
        | _ => s.breaksOut
      restart := s.restart.map (fun r => { r with
        outstanding := match f with
          | .brk h _ _ => r.outstanding.erase (.brk h)
          | .release h _ => r.outstanding.erase (.release h)
          | _ => r.outstanding }) }
    let begins (v : State) : State := if s.nodeState = .running then v.beginRestart else v
    (s.txQueue.any (fun y => y.inTransmission && y.leaving) = false →
      exec (.frameEnd none true) s = .next { s with
        txPhase := .quiet, txQueue := s.txQueue.map (fun y => { y with inTransmission := false })
        badFrames := min (s.badFrames + 1) 255 }) ∧
    (s.txQueue.any (fun y => y.inTransmission && y.leaving) = true →
      exec (.frameEnd none true) s = .next { sent with badFrames := min (s.badFrames + 1) 255 }) ∧
    (s.rxQueue.length < Config.rxCapacity →
      exec (.frameEnd none false) s = .next { sent with rxQueue := s.rxQueue ++ [⟨s.address, f⟩] }) ∧
    (s.rxQueue.length = Config.rxCapacity → s.fault.kind.isSome = true →
      exec (.frameEnd none false) s = .next (begins
        { lost with fault := { s.fault with later := min (s.fault.later + 1) 15 } })) ∧
    (s.rxQueue.length = Config.rxCapacity → s.fault.kind = none → sent.roomFor 1 →
      exec (.frameEnd none false) s = .next (begins
        { lost with
          fault := ⟨some .rxOverrun, none, none, 0⟩
          txQueue := sent.txQueue ++ [⟨.frame (.notice .faultCaptured none 5), false, false⟩] }))

/-- The checks of another station's frame, in their order. A length above 12 counts the frame bad and costs the
receiver its place on the line; a flag or a CRC that differs, an unknown kind, a class that is not the kind's and
a length that is not right for it count it bad; a frame that passes them all joins the back of the receive queue
and is not counted. A node that does not follow the line takes none. -/
def Obligations.FrameIsCheckedAndQueued : Prop :=
  ∀ (s : State) (f : RawFrame) (flagged : Bool), s.txPhase = .quiet →
    let bad := { s with badFrames := min (s.badFrames + 1) 255 }
    let follows := s.lineState = .following ∧ s.nodeState.takesFrames = true
    (¬follows → exec (.frameEnd (some f) flagged) s = .next s ∧ exec .overLongFrame s = .next s) ∧
    (follows → exec .overLongFrame s = .next { bad with lineState := .seeking }) ∧
    (follows → 12 < f.payload.length →
      exec (.frameEnd (some f) flagged) s = .next { bad with lineState := .seeking }) ∧
    (follows → f.payload.length ≤ 12 → flagged = true ∨ f.crc ≠ rawCrc f ∨ Frame.ofRaw f = none →
      exec (.frameEnd (some f) flagged) s = .next bad) ∧
    (∀ x, follows → f.payload.length ≤ 12 → flagged = false → f.crc = rawCrc f →
      Frame.ofRaw f = some x → s.rxQueue.length < Config.rxCapacity →
      exec (.frameEnd (some f) flagged) s = .next { s with
        rxQueue := s.rxQueue ++ [⟨f.sender.toFin, x⟩] }) ∧
    ∀ x, Frame.ofRaw f = some x →
      f.cls.toNat = x.cls ∧ f.kind.toNat = x.code ∧ f.payload.length = x.length

/-- A good frame of another station that completes while the receive queue is full is lost: it joins nothing and
the queued frames stay. RxOverrun is captured with no location and no handle. A RUNNING node then begins a warm
restart; a RESTARTING or CONFIG-FAULT node does nothing more. -/
def Obligations.ReceiveOverflowRestarts : Prop :=
  ∀ (s : State) (f : RawFrame) (x : Frame), s.txPhase = .quiet → s.lineState = .following →
    f.payload.length ≤ 12 → f.crc = rawCrc f → Frame.ofRaw f = some x →
    f.sender.toFin ≠ s.address → s.rxQueue.length = Config.rxCapacity →
    ∃ t, exec (.frameEnd (some f) false) s = .next t ∧
      (s.nodeState = .running → s.roomFor 1 → s.fault.kind = none →
        t = State.beginRestart { s with
          fault := ⟨some .rxOverrun, none, none, 0⟩
          txQueue := s.txQueue ++ [⟨.frame (.notice .faultCaptured none 5), false, false⟩] }) ∧
      (s.nodeState = .running → s.fault.kind.isSome = true →
        t = State.beginRestart { s with
          fault := { s.fault with later := min (s.fault.later + 1) 15 } }) ∧
      (s.nodeState = .running → t.nodeState = .restarting ∧ t.rxQueue = s.rxQueue) ∧
      (s.nodeState = .restarting ∨ s.nodeState = .configFault → s.fault.kind.isSome = true →
        t = { s with fault := { s.fault with later := min (s.fault.later + 1) 15 } }) ∧
      (s.nodeState = .restarting ∨ s.nodeState = .configFault → s.roomFor 1 → s.fault.kind = none →
        t = { s with
          fault := ⟨some .rxOverrun, none, none, 0⟩
          txQueue := s.txQueue ++ [⟨.frame (.notice .faultCaptured none 5), false, false⟩] }) ∧
      (s.nodeState = .restarting → s.fault.kind = none →
        t = { s with
          fault := ⟨some .rxOverrun, none, none, 0⟩, txQueue := t.txQueue
          txDrops := t.txDrops, restart := t.restart })

/-- A frame queued into a full transmit queue: of the frames not in transmission with a higher class number, the
one of the highest class that was queued most recently is removed and the new frame queued; with none, the new
frame is dropped. Either is counted. If the frame so lost is of class 0 or 1, TxLost is captured; a lost REPORT
empties the report slot; a lost drop-out BREAK is accounted for, and in a warm restart so is a lost teardown
BREAK or RELEASE. Teardown frames that wait outside stay there. -/
def Obligations.TransmitOverflow : Prop :=
  ∀ (s : State) (f : Frame) (i : Nat) (x : TxEntry),
    s.txQueue.length = Config.txCapacity →
    let t := s.enqueue f
    let settled (lost : TxItem) :=
      t.txDrops = min (s.txDrops + if lost.cls ≤ 1 ∧ s.fault.kind = none then 2 else 1) 255 ∧
      (lost.cls ≤ 1 → s.fault.kind = none → t.fault = ⟨some .txLost, none, none, 0⟩) ∧
      (lost.cls ≤ 1 → s.fault.kind.isSome = true →
        t.fault = { s.fault with later := min (s.fault.later + 1) 15 }) ∧
      (1 < lost.cls → t.fault = s.fault) ∧
      t.reportSlot = (if lost = .report then none else s.reportSlot) ∧
      (t.breaksOut = match lost with
        | .frame (.brk h _ r) => if r = 19 then s.breaksOut.erase h else s.breaksOut
        | _ => s.breaksOut) ∧
      t.restart = s.restart.map (fun r => { r with
        outstanding := match lost with
          | .frame (.brk h _ _) => r.outstanding.erase (.brk h)
          | .frame (.release h _) => r.outstanding.erase (.release h)
          | _ => r.outstanding }) ∧
      t = { s with
        txQueue := t.txQueue, txDrops := t.txDrops, fault := t.fault, reportSlot := t.reportSlot
        breaksOut := t.breaksOut, restart := t.restart }
    (s.txQueue[i]? = some x → x.inTransmission = false → f.cls < x.item.cls →
      (∀ (j : Nat) (y : TxEntry), s.txQueue[j]? = some y → y.inTransmission = false →
        f.cls < y.item.cls → y.item.cls < x.item.cls ∨ y.item.cls = x.item.cls ∧ j ≤ i) →
      t.txQueue = s.txQueue.eraseIdx i ++ [⟨.frame f, false, false⟩] ∧ settled x.item) ∧
    ((∀ y ∈ s.txQueue, y.inTransmission = true ∨ y.item.cls ≤ f.cls) →
      t.txQueue = s.txQueue ∧ settled (.frame f))

/-! ### Route setup (section 7) -/

/-- A ROUTE-EXT is filed under its sender as the newest entry: it replaces the sender's entry if there is one,
fills a free entry, or takes the place of the oldest. The table keeps at most four entries and one for each
sender; nothing else happens, whatever the frame's handle and hops are. -/
def Obligations.ExtensionIsFiled : Prop :=
  ∀ (s : State) (a : Address) (h : Handle) (hops : List Hop),
    s.headFrame = some ⟨a, .routeExt h hops⟩ → s.extTable.length ≤ 4 →
    (s.extTable.map (·.sender)).Nodup →
    ∃ t, exec .frameSeenRouteExt s = .next t ∧
      t = { s with rxQueue := s.rxQueue.tail, extTable := t.extTable } ∧
      (a ∈ s.extTable.map (·.sender) →
        t.extTable = s.extTable.filter (fun x => x.sender != a) ++ [⟨a, h, hops⟩]) ∧
      (a ∉ s.extTable.map (·.sender) → s.extTable.length < 4 →
        t.extTable = s.extTable ++ [⟨a, h, hops⟩]) ∧
      (a ∉ s.extTable.map (·.sender) → s.extTable.length = 4 →
        t.extTable = s.extTable.tail ++ [⟨a, h, hops⟩]) ∧
      t.extTable.length ≤ 4 ∧ (t.extTable.map (·.sender)).Nodup

/-- What a ROUTE's hop list is and whether it is well-formed. With the extended flag clear the table is not
consulted. With it set, the sender's entry, if it has the ROUTE's handle, gives the hops from number 4 on and is
removed, whatever becomes of the ROUTE; else the ROUTE carries its own hops only and is malformed. That a hop
count of 0 leaves the entry's hops in the list is the model's choice (log entry 30). -/
def Obligations.RouteHopListResolved : Prop :=
  ∀ (table : List ExtEntry) (a : Address) (h : Handle) (count : Fin 16) (hops : List Hop),
    hops.length = min count.val 4 →
    let own : HopList := [0, 1, 2, 3].zip hops
    resolveRoute table a h count false hops =
      ⟨own, decide (1 ≤ count.val ∧ count.val ≤ 4), table⟩ ∧
    (∀ x, table.find? (fun x => x.sender == a) = some x → x.handle = h →
      resolveRoute table a h count true hops =
        ⟨own ++ [4, 5, 6, 7].zip x.hops,
          decide (5 ≤ count.val ∧ count.val ≤ 8 ∧ count.val = 4 + x.hops.length),
          table.filter (fun y => y.sender != a)⟩) ∧
    ((∀ x, table.find? (fun x => x.sender == a) = some x → x.handle ≠ h) →
      resolveRoute table a h count true hops = ⟨own, false, table⟩)

/-- A ROUTE at a RUNNING node that only anchors it: GateDisabled, GateBusy and Malformed are tested in that
order, and a refusal queues REFUSE and leaves the slot. Otherwise the slot takes the hop list with an empty
ready set, enters COLLECTING with its timer at the setup timeout, and ACCEPT is queued. A node that the ROUTE
does not concern does nothing but keep its extension table. -/
def Obligations.RouteAtAnchor : Prop :=
  ∀ (s : State) (a : Address) (h : Handle) (lane : Lane) (count : Fin 16) (ext : Bool) (hops : List Hop),
    s.headFrame = some ⟨a, .route h lane count ext hops⟩ → s.nodeState = .running → s.roomFor 1 →
    let r : Resolved := resolveRoute s.extTable a h count ext hops
    (∀ p ∈ r.hops, p.2.node ≠ s.address) →
    let u := { s with rxQueue := s.rxQueue.tail, extTable := r.table }
    let refused (reason : Reason) := { u with
      txQueue := s.txQueue ++ [⟨.frame (.refuse h reason.code), false, false⟩] }
    exec .frameSeenRoute s = .next (
      if h.anchor ≠ s.address then u
      else if s.config.gateEnable.getLsbD h.gate = false then refused .gateDisabled
      else if (s.slot h.gate).state ≠ .idle then refused .gateBusy
      else if r.wellFormed = false then refused .malformed
      else { u with
        slots := s.slots.set h.gate {
          state := .collecting, hops := r.hops.map (·.2), ready := 0
          timer := some (s.config.setupTimeout * 100), quenchTimer := none, purpose := none
          stepThrow := none, releaseReason := none, scan := none }
        txQueue := s.txQueue ++ [⟨.frame (.accept h), false, false⟩] })

/-- A ROUTE at a RUNNING node that holds hops of it, after the anchor role has been acted on where the node is
its anchor too, an order that is inferred (log entry 11). The six checks are made in order, each on all the
node's hops, and the first that fails gives the reason of one HOPSTAT Refused with the node's mask, no element
changed. Otherwise every element named is claimed: tentative, with its hop number, its timer at 200 units, the
last-hop mark on the hop numbered count less one and the hop's throw as target; no frame is queued. -/
def Obligations.RouteAtHopNode : Prop :=
  ∀ (s : State) (a : Address) (h : Handle) (lane : Lane) (count : Fin 16) (ext : Bool) (hops : List Hop),
    s.headFrame = some ⟨a, .route h lane count ext hops⟩ → s.nodeState = .running →
    s.roomFor 2 →
    let r : Resolved := resolveRoute s.extTable a h count ext hops
    let mine : HopList := r.hops.filter (fun p => p.2.node == s.address)
    mine ≠ [] → (r.hops.map (·.1)).Nodup →
    let v := { s with rxQueue := s.rxQueue.tail, extTable := r.table }
    let u := if h.anchor = s.address then v.anchorRole h r else v
    let named (p : Hop → Element → Bool) :=
      mine.any (fun q => match s.elem q.2.element with
        | some x => p q.2 x
        | none => false)
    let reason : Option Reason :=
      if r.wellFormed = false ∨ ¬(mine.map (fun q => q.2.element)).Nodup ∨
          mine.any (fun q => decide (12 ≤ q.2.throw.val)) = true then some .malformed
      else if mine.any (fun q => (s.elem q.2.element).isNone) = true then some .noSuchElement
      else if named (fun hp x => decide (x.throws ≤ hp.throw.val)) = true then some .badThrow
      else if s.holds h = true then some .handleBusy
      else if named (fun _ x => x.state == .fault) = true then some .faulted
      else if named (fun _ x => x.state != .free) = true then some .busy
      else none
    ∃ t mask, exec .frameSeenRoute s = .next t ∧ mask = hopMaskOf mine ∧
      (∀ k : HopNo, mask.getLsbD k = true ↔ ∃ q ∈ mine, q.1 = k) ∧
      (∀ why, reason = some why →
        t = { u with
          txQueue := u.txQueue ++
            [⟨.frame (.hopstat h mask .refused (why.code.setWidth 4) false), false, false⟩] }) ∧
      (reason = none →
        t = { u with elems := t.elems } ∧
        (∀ q ∈ mine, ∀ x, s.elem q.2.element = some x →
          t.elem q.2.element = some { x with
            state := .claimed, target := some q.2.throw, stepTarget := false
            owner := some ⟨h, mask, lane, true, some 200, q.1,
              decide (q.1.val + 1 = r.hops.length)⟩ }) ∧
        ∀ e : ElemNo, (∀ q ∈ mine, q.2.element ≠ e) → t.elem e = s.elem e)

/-- A ROUTE at a node in RESTARTING or CONFIG-FAULT is answered NotRunning in each role in which it concerns the
node: REFUSE as anchor, HOPSTAT Refused with the node's mask as hop node, in this order, which is inferred (log
entry 11). No slot and no element changes. -/
def Obligations.RouteAnsweredNotRunning : Prop :=
  ∀ (s : State) (a : Address) (h : Handle) (lane : Lane) (count : Fin 16) (ext : Bool) (hops : List Hop),
    s.headFrame = some ⟨a, .route h lane count ext hops⟩ →
    s.nodeState = .restarting ∨ s.nodeState = .configFault →
    let r : Resolved := resolveRoute s.extTable a h count ext hops
    let mine : HopList := r.hops.filter (fun p => p.2.node == s.address)
    let u := { s with rxQueue := s.rxQueue.tail, extTable := r.table }
    let v := if h.anchor = s.address then u.enqueue (.refuse h 1) else u
    ∃ t, exec .frameSeenRoute s = .next t ∧
      t = (if mine = [] then v else v.enqueue (.hopstat h (hopMaskOf mine) .refused 1 false)) ∧
      t.slots = s.slots ∧ t.elems = s.elems ∧
      (s.roomFor 1 → h.anchor = s.address → mine = [] →
        t.txQueue = s.txQueue ++ [⟨.frame (.refuse h 1), false, false⟩])

/-- ACCEPT from the handle's anchor at a RUNNING node confirms every tentative claim for the handle. An element
already at its target goes to SET; any other waits with its move to the target queued in the owner's lane, or
moves if that move could start at once (its record is O17's). If a confirmation took an element to SET and every element
held for the handle is SET then, one HOPSTAT Ready with the node's mask and the OR of the wear warnings is queued.
Other elements stay; the moves in service and those pending before stay, in their order, with what is new behind them,
and a channel changes only from IDLE, to pulse for a move of a confirmed element. -/
def Obligations.AcceptConfirmsClaims : Prop :=
  ∀ (s : State) (h : Handle), s.headFrame = some ⟨h.anchor, .accept h⟩ → s.nodeState = .running →
    s.roomFor 1 → s.arbiterSafe → s.statesSafe → ¬s.grantable →
    let atTarget (x : Element) : Prop :=
      x.target.isSome = true ∧ x.commanded = x.target ∧ x.target.map Sensed.throw = some x.sensed ∧
        (x.cls = .failsafe → x.hold = none ∨ x.hold = x.target)
    let confirms (e : ElemNo) : Prop :=
      ∃ x, s.elem e = some x ∧ x.claimedFor h = true ∧ ¬atTarget x
    ∃ t vs ms, exec .frameSeenAccept s = .next t ∧
      t = { s with
        rxQueue := s.rxQueue.tail, elems := t.elems, controls := t.controls
        moveQueue := s.moveQueue ++ ms, services := s.services ++ vs, channels := t.channels
        txQueue := t.txQueue } ∧
      (∀ m ∈ ms, confirms m.elem) ∧ (∀ v ∈ vs, confirms v.elem) ∧
      (∀ d : ChannelNo, t.channel d = s.channel d ∨
        s.channel d = .idle ∧ ∃ v ∈ vs, v.channel = some d ∧ (t.channel d).pulses v.elem = true) ∧
      ¬t.grantable ∧ (¬s.startable → ¬t.startable) ∧
      (∀ e : ElemNo, s.elem e = none → t.elem e = none ∧ t.control e = s.control e) ∧
      (∀ (e : ElemNo) (x : Element), s.elem e = some x →
        (x.claimedFor h = false → t.elem e = some x ∧ t.control e = s.control e) ∧
        (x.claimedFor h = true → atTarget x → t.control e = s.control e ∧ t.elem e = some { x with
          owner := x.owner.map (fun o => { o with tentative := false, claimTimer := none })
          state := .set, target := none, stepTarget := false, retry := false, mismatchRun := 0 }) ∧
        (x.claimedFor h = true → ¬atTarget x → ∃ k, x.target = some k ∧ ∃ o, x.owner = some o ∧
          let y := { x with
            owner := some { o with tentative := false, claimTimer := none }
            state := .waiting, retry := false }
          (t.elem e = some y ∧ t.hasEntry e = true ∧ t.control e = s.control e ∧
              (∀ m ∈ t.moveQueue, m.elem = e → m.target = k ∧ m.lane = o.lane) ∨
            t.elem e = some (y.startMove s.config k) ∧ t.hasService e = true ∧
              t.control e = (if x.cls = .solidState then k else s.control e) ∧
              ∀ v ∈ t.services, v.elem = e → v.target = k ∧ v.lane = o.lane))) ∧
      t.txQueue = s.txQueue ++
        (if (∃ e x, s.elem e = some x ∧ x.claimedFor h = true ∧ atTarget x) ∧ t.allSet h = true then
          [⟨.frame (.hopstat h (s.maskOf h) .ready 0 (t.wearOf h)), false, false⟩]
        else [])

/-- Frames that have no effect but to leave the receive queue. In every node state that takes frames: HOT, COLD,
RELEASE, ACCEPT and REFUSE from a station that is not their handle's anchor; HOPSTAT, DROP, ADVANCE and another
station's BREAK for a handle that the node does not anchor; every REPORT and NOTICE. In a node that is not
RUNNING: these and SCAN from any station and for any handle, but for the node's own RELEASE during a warm
restart and its own BREAK. They are not counted bad. -/
def Obligations.FramesWithoutEffect : Prop :=
  ∀ (s : State) (c : Instr) (a : Address) (f : Frame) (h : Handle),
    s.headFrame = some ⟨a, f⟩ →
    (a ≠ h.anchor ∧
        (c = .frameSeenHot ∧ f = .hot h ∨ (∃ p, c = .frameSeenCold ∧ f = .cold h p) ∨
          (∃ r, c = .frameSeenRelease ∧ f = .release h r) ∨ c = .frameSeenAccept ∧ f = .accept h ∨
            ∃ r, c = .frameSeenRefuse ∧ f = .refuse h r)) ∨
      (s.nodeState ≠ .running ∧
        (c = .frameSeenHot ∧ f = .hot h ∨ (∃ p, c = .frameSeenCold ∧ f = .cold h p) ∨
          (∃ r, c = .frameSeenRelease ∧ f = .release h r ∧ (a ≠ s.address ∨ s.restart = none)) ∨
          c = .frameSeenAccept ∧ f = .accept h ∨ (∃ r, c = .frameSeenRefuse ∧ f = .refuse h r) ∨
          (∃ m st r w, c = .frameSeenHopstat ∧ f = .hopstat h m st r w) ∨
          c = .frameSeenDrop ∧ f = .drop h ∨
          (∃ m r, c = .frameSeenBreak ∧ f = .brk h m r ∧ a ≠ s.address) ∨
          (∃ S d k, c = .frameSeenScan ∧ f = .scan h S d k) ∨ c = .frameSeenAdvance ∧ f = .advance h)) ∨
      (s.address ≠ h.anchor ∧
        ((∃ m st r w, c = .frameSeenHopstat ∧ f = .hopstat h m st r w) ∨
          c = .frameSeenDrop ∧ f = .drop h ∨ c = .frameSeenAdvance ∧ f = .advance h ∨
          ∃ m r, c = .frameSeenBreak ∧ f = .brk h m r ∧ a ≠ s.address)) ∨
      (∃ u b, c = .frameSeenReport ∧ f = .report u b) ∨
      (∃ k o d, c = .frameSeenNotice ∧ f = .notice k o d) →
    exec c s = .next { s with rxQueue := s.rxQueue.tail }

/-! ### The frames of a path (sections 7.6, 8 and 9) -/

/-- A HOPSTAT Ready at a RUNNING anchor whose slot is COLLECTING or STEPPING: the hop numbers of its mask below
the hop count join the ready set, and in STEPPING the last hop's number makes the scan's current throw the one
the hop list names. When the set is full the timer stops, and the slot is HELD if the line is sensed asserted;
if not, the gate opens, HOT is queued, and from STEPPING a pending trigger is taken. In any other slot state,
for another anchor's handle and in another node state a HOPSTAT Ready has no effect. -/
def Obligations.ReadyReportsFillSet : Prop :=
  ∀ (s : State) (a : Address) (h : Handle) (mask : HopMask) (reason : BitVec 4) (wear : Bool),
    s.headFrame = some ⟨a, .hopstat h mask .ready reason wear⟩ →
    let g := h.gate
    let sl := s.slot g
    let n := sl.hops.length
    let u := { s with rxQueue := s.rxQueue.tail }
    let waits := s.nodeState = .running ∧ h.anchor = s.address ∧
      (sl.state = .collecting ∨ sl.state = .stepping)
    ∃ t, exec .frameSeenHopstat s = .next t ∧
      (¬waits → t = u) ∧
      (waits → 1 ≤ n → n ≤ 8 → sl.ready &&& ~~~(fullMask n) = 0 →
        ∃ sl' : Slot, sl' = { sl with ready := sl'.ready, scan := sl'.scan } ∧
          (∀ k : HopNo, sl'.ready.getLsbD k = true ↔
            sl.ready.getLsbD k = true ∨ mask.getLsbD k = true ∧ k.val < n) ∧
          sl'.scan = (if sl.state = .stepping ∧ mask.getLsbD (n - 1) = true then
            sl.scan.map (fun sc =>
              { sc with current := (sl.hops.getLast?.map (·.throw)).getD sc.current })
            else sl.scan) ∧
          let full := ∀ k : HopNo, k.val < n → sl'.ready.getLsbD k = true
          let v := { u with
            slots := s.slots.set g { sl' with
              state := .hot, timer := none, quenchTimer := none, purpose := none }
            gateOut := s.gateOut.set g true
            txQueue := s.txQueue ++ [⟨.frame (.hot h), false, false⟩] }
          (¬full → t = { u with slots := s.slots.set g sl' }) ∧
          (full → s.quenchSensed = true →
            t = { u with slots := s.slots.set g { sl' with state := .held, timer := none } }) ∧
          (full → s.quenchSensed = false → s.roomFor 1 →
            (sl.state = .collecting ∨ (sl'.scan.map (·.pending)).getD false = false → t = v) ∧
            (sl.state = .stepping → ∀ sc, sl'.scan = some sc → sc.pending = true →
              t = State.trigger { v with
                slots := v.slots.set g { v.slot g with scan := some { sc with pending := false } } } g)))

/-- The events that end a path at its RUNNING anchor: HOPSTAT Refused (HopRefused) and Fault (HopFault), DROP
(Dropped) and BREAK (Broken), each from any station. COLLECTING and STEPPING release at once; HOT closes its gate,
queues COLD with purpose all and waits out the quench time; HELD waits it out from now; a step's quench time
becomes a release's and runs on; a release under way, IDLE and RELEASING are not changed. A BREAK of the node's
own is accounted for. For a handle of another anchor no slot acts. -/
def Obligations.PathEndingCauses : Prop :=
  ∀ (s : State) (a : Address) (c : Instr) (f : Frame) (h : Handle) (why : Reason),
    s.nodeState = .running → s.drivesSafe → s.roomFor 1 → s.headFrame = some ⟨a, f⟩ →
    ((∃ m r w, c = .frameSeenHopstat ∧ f = .hopstat h m .refused r w ∧ why = .hopRefused) ∨
      (∃ m r w, c = .frameSeenHopstat ∧ f = .hopstat h m .fault r w ∧ why = .hopFault) ∨
      (c = .frameSeenDrop ∧ f = .drop h ∧ why = .dropped) ∨
      ∃ m r, c = .frameSeenBreak ∧ f = .brk h m r ∧ why = .broken) →
    let g := h.gate
    let sl := s.slot g
    let u := { s with
      rxQueue := s.rxQueue.tail
      breaksOut := match f with
        | .brk h' _ r => if a = s.address ∧ r = 19 then s.breaksOut.erase h' else s.breaksOut
        | _ => s.breaksOut }
    let quenching := { sl with
      state := .quenching, quenchTimer := some s.config.quenchTime, purpose := some .release
      stepThrow := none, releaseReason := some why }
    exec c s = .next (
      if h.anchor ≠ s.address then u
      else match sl.state with
        | .idle | .releasing => u
        | .collecting | .stepping => { u with
          slots := s.slots.set g { sl with
            state := .releasing, timer := none, quenchTimer := none, purpose := none
            stepThrow := none, releaseReason := some why }
          txQueue := s.txQueue ++ [⟨.frame (.release h why.code), false, false⟩] }
        | .hot => { u with
          slots := s.slots.set g quenching, gateOut := s.gateOut.set g false
          txQueue := s.txQueue ++ [⟨.frame (.cold h .all), false, false⟩] }
        | .held => { u with slots := s.slots.set g quenching }
        | .quenching =>
          if sl.purpose = some .step then { u with
            slots := s.slots.set g { sl with
              purpose := some .release, stepThrow := none, releaseReason := some why } }
          else u)

/-- HOT and COLD with purpose all, seen from the handle's anchor by a RUNNING node: HOT takes the handle's SET
elements to LIVE, COLD its LIVE elements to SET with their mismatch runs at 0; every other element, and all else,
stays. -/
def Obligations.HotAndColdExpose : Prop :=
  ∀ (s : State) (h : Handle), s.nodeState = .running →
    (s.headFrame = some ⟨h.anchor, .hot h⟩ →
      ∃ t, exec .frameSeenHot s = .next t ∧
        t = { s with rxQueue := s.rxQueue.tail, elems := t.elems } ∧
        ∀ e : ElemNo, t.elem e = (s.elem e).map (fun x =>
          if x.owner.map (·.handle) = some h ∧ x.state = .set then { x with state := .live } else x)) ∧
    (s.headFrame = some ⟨h.anchor, .cold h .all⟩ →
      ∃ t, exec .frameSeenCold s = .next t ∧
        t = { s with rxQueue := s.rxQueue.tail, elems := t.elems } ∧
        ∀ e : ElemNo, t.elem e = (s.elem e).map (fun x =>
          if x.owner.map (·.handle) = some h ∧ x.state = .live then x.toSet else x))

/-- COLD with purpose step, seen from the anchor by a RUNNING node: the handle's LIVE elements go to SET, and the
element that holds the hop named acts by its state. Not below its throw count, the throw is refused BadThrow; if
it is the commanded one, Ready is queued for the hop; any other gives a step target, and the move is queued. An
element in FAULT answers Fault, one still on its way Refused Busy. Where no element holds the hop, nothing more
happens. -/
def Obligations.ColdStepMovesHop : Prop :=
  ∀ (s : State) (h : Handle) (k : HopNo) (j : Throw), s.nodeState = .running →
    s.headFrame = some ⟨h.anchor, .cold h (.step k j)⟩ → s.roomFor 1 →
    ∃ t u, exec .frameSeenCold s = .next t ∧
      u = { s with rxQueue := s.rxQueue.tail, elems := u.elems } ∧
      (∀ e : ElemNo, u.elem e = (s.elem e).map (fun x =>
        if x.owner.map (·.handle) = some h ∧ x.state = .live then x.toSet else x)) ∧
      ((∀ (e : ElemNo) (x : Element), s.elem e = some x →
          ¬(x.owner.map (fun o => (o.handle, o.hop)) = some (h, k))) → t = u) ∧
      ∀ (e : ElemNo) (x : Element), u.elem e = some x →
        x.owner.map (fun o => (o.handle, o.hop)) = some (h, k) →
        (∀ (f : ElemNo) (y : Element), s.elem f = some y → f < e →
          ¬(y.owner.map (fun o => (o.handle, o.hop)) = some (h, k))) →
        let answer (st : Status) (r : BitVec 4) (w : Bool) := { u with
          txQueue := s.txQueue ++
            [⟨.frame (.hopstat h (BitVec.twoPow 8 k) st r w), false, false⟩] }
        t = match x.state with
          | .set | .live =>
            if x.throws ≤ j.val then answer .refused 4 false
            else if x.commanded = some j then answer .ready 0 x.wearWarning
            else State.queueMove
              { u with
                elems := u.elems.set e (some { x with
                  state := .waiting, target := some j, stepTarget := true, retry := false }) }
              e j ((x.owner.map (·.lane)).getD 7)
          | .fault => answer .fault 6 false
          | .claimed | .waiting | .moving | .verifying => answer .refused 7 false
          | .free | .returning => u

/-- RELEASE, seen from the handle's anchor by a RUNNING node: the node holds the handle no more. A CLAIMED
element goes to FREE, a MOVING one is marked for release on completion, a WAITING one's move is withdrawn, and
each of the others, as the WAITING one, is left in FAULT by its latch, sent back or to its park throw by a move
in lane 7 (whose start is O17's), or FREE. Elements of other paths and of none stay, and so do the moves in service and
the pending moves that are not withdrawn, in their order, with what is new behind them; a channel changes only from
IDLE, to pulse for a move to a park throw. At the anchor its own RELEASE takes its RELEASING
slot to IDLE, emptied. -/
def Obligations.ReleaseFreesElements : Prop :=
  ∀ (s : State) (h : Handle) (r : ReasonCode), s.headFrame = some ⟨h.anchor, .release h r⟩ →
    s.nodeState = .running → s.arbiterSafe → s.statesSafe → ¬s.grantable →
    ∃ t vs ms, exec .frameSeenRelease s = .next t ∧ t.holds h = false ∧
      t = { s with
        rxQueue := s.rxQueue.tail, elems := t.elems, controls := t.controls
        moveQueue := s.moveQueue.filter (fun m => !(s.elem m.elem).any (fun x =>
          x.ownedBy h && x.state == .waiting)) ++ ms
        services := s.services ++ vs, channels := t.channels
        slots := if h.anchor = s.address ∧ (s.slot h.gate).state = .releasing then
          s.slots.set h.gate Slot.idle else s.slots } ∧
      (∀ m ∈ ms, m.lane = 7 ∧ (s.elem m.elem).any (fun x => x.ownedBy h) = true) ∧
      (∀ v ∈ vs, v.lane = 7 ∧ (s.elem v.elem).any (fun x => x.ownedBy h) = true) ∧
      (∀ d : ChannelNo, t.channel d = s.channel d ∨
        s.channel d = .idle ∧ ∃ v ∈ vs, v.channel = some d ∧ (t.channel d).pulses v.elem = true) ∧
      ¬t.grantable ∧ (¬s.startable → ¬t.startable) ∧
      ∀ (e : ElemNo) (x : Element), s.elem e = some x →
        let back : Option Throw :=
          if x.cls = .failsafe then (if x.commanded ≠ some 0 ∨ x.hold ≠ none then some 0 else none)
          else if x.commanded ≠ x.park then x.park else none
        let y := { x with
          owner := none, retry := false, releaseOnCompletion := false, mismatchRun := 0
          stepTarget := false, verifyDue := false }
        (x.ownedBy h = false → t.elem e = some x ∧ t.hasEntry e = s.hasEntry e) ∧
        (t.control e = if x.ownedBy h = true ∧ x.cls = .solidState ∧ x.state ≠ .moving ∧
            t.hasService e = true then back.getD 0 else s.control e) ∧
        (x.ownedBy h = true → x.state = .claimed → t.elem e = some x.toFree) ∧
        (x.ownedBy h = true → x.state = .moving →
          t.elem e = some { x with owner := none, releaseOnCompletion := true }) ∧
        (x.ownedBy h = true → x.state ≠ .claimed → x.state ≠ .moving →
          (x.faultLatch = true → t.elem e = some { y with state := .fault, target := none }) ∧
          (x.faultLatch = false → back = none →
            t.elem e = some { y with state := .free, target := none } ∧ t.hasEntry e = false) ∧
          (∀ k, x.faultLatch = false → back = some k →
            let z := { y with state := .returning, target := some k }
            (t.elem e = some z ∧ t.hasEntry e = true ∧
                (∀ m ∈ t.moveQueue, m.elem = e → m.target = k ∧ m.lane = 7) ∨
              t.elem e = some (z.startMove s.config k) ∧ t.hasService e = true ∧
                ∀ v ∈ t.services, v.elem = e → v.target = k ∧ v.lane = 7)))

/-- SCAN at a RUNNING node. At the anchor, in a slot state with a path, a set that is empty or lacks the current
throw or the throw in flight is refused with a NOTICE; else the scan record is created, or replaced with its
current throw and overrun count kept. At the node of the last hop a set with a throw that the element does not
have is answered HOPSTAT ScanRefused for that hop. A HOPSTAT ScanRefused for a path with a scan record removes
the record, with a NOTICE, and touches nothing else of the path. That at a node which is both anchor and last
hop the NOTICE is queued before the HOPSTAT is inferred (log entry 11). -/
def Obligations.ScanCreatesOrRefusesRecord : Prop :=
  ∀ (s : State) (a : Address) (h : Handle), s.roomFor 2 →
    let sl := s.slot h.gate
    let hasPath := h.anchor = s.address ∧ sl.state ≠ .idle ∧ sl.state ≠ .releasing
    let u := { s with rxQueue := s.rxQueue.tail }
    (∀ (S : ThrowSet) (d k : BitVec 8), s.headFrame = some ⟨a, .scan h S d k⟩ →
      let last := (sl.hops.getLast?.map (·.throw)).getD 15
      let current := (sl.scan.map (·.current)).getD last
      let fits := S ≠ 0 ∧ inSet S current = true ∧
        (sl.state = .stepping → sl.hops ≠ [] → inSet S last = true) ∧
        (sl.state = .quenching → sl.purpose = some .step → ∀ j, sl.stepThrow = some j →
          inSet S j = true)
      (s.nodeState ≠ .running → exec .frameSeenScan s = .next u) ∧
      (s.nodeState = .running →
        ∃ t v, exec .frameSeenScan s = .next t ∧
          (¬hasPath → v = u) ∧
          (hasPath → fits → v = { u with
            slots := s.slots.set h.gate { sl with
              scan := some {
                throws := S, current := current, dwellReload := d.toNat, dwell := d.toNat
                cyclesReload := k.toNat, cycles := k.toNat, pending := false
                overrun := (sl.scan.map (·.overrun)).getD 0, ended := false } } }) ∧
          (hasPath → ¬fits → v = { u with
            txQueue := s.txQueue ++
              [⟨.frame (.notice .scanRefused (some h) 20), false, false⟩] }) ∧
          ((∀ (e : ElemNo) (x : Element), s.elem e = some x →
            x.owner.any (fun o => o.handle == h && o.lastHop) = false) → t = v) ∧
          ∀ (e : ElemNo) (x : Element), s.elem e = some x →
            x.owner.any (fun o => o.handle == h && o.lastHop) = true →
            (∀ (f : ElemNo) (y : Element), s.elem f = some y → f < e →
              y.owner.any (fun o => o.handle == h && o.lastHop) = false) →
            ((∀ j : Throw, inSet S j = true → j.val < x.throws) → t = v) ∧
            ((∃ j : Throw, inSet S j = true ∧ x.throws ≤ j.val) → ∀ o, x.owner = some o →
              t = { v with
                txQueue := v.txQueue ++
                  [⟨.frame (.hopstat h (BitVec.twoPow 8 o.hop) .scanRefused 4 false),
                    false, false⟩] }))) ∧
    (∀ (m : HopMask) (r : BitVec 4) (w : Bool), s.nodeState = .running →
      s.headFrame = some ⟨a, .hopstat h m .scanRefused r w⟩ →
      exec .frameSeenHopstat s = .next (
        if hasPath ∧ sl.scan ≠ none then { u with
          slots := s.slots.set h.gate { sl with scan := none }
          txQueue := s.txQueue ++
            [⟨.frame (.notice .scanRefused (some h) 12), false, false⟩] }
        else u))

/-! ### Lane hold, queries, faults and the warm restart (sections 4.5, 10 and 12) -/

/-- LANEHOLD, from any station, at a RUNNING node that its target addresses: the mask is replaced, every pending
move of an unheld lane that needs no channel is started and every grant that can be made is made, each element taking
the record of O17. Moves in
service go on, the moves left keep their places, and those of held lanes all stay. At a node that is not RUNNING
or not addressed it has no effect. -/
def Obligations.LaneHoldReplacesMask : Prop :=
  ∀ (s : State) (a : Address) (target : Target) (mask : LaneMask),
    s.headFrame = some ⟨a, .laneHold target mask⟩ →
    let u := { s with rxQueue := s.rxQueue.tail }
    let acts := s.nodeState = .running ∧ (target.all = true ∨ target.address = s.address)
    ∃ t, exec .frameSeenLanehold s = .next t ∧
      (¬acts → t = u) ∧
      (acts → s.arbiterSafe →
        t = { u with
          laneHold := mask, elems := t.elems, controls := t.controls, moveQueue := t.moveQueue
          services := t.services, channels := t.channels } ∧
        ¬t.grantable ∧ ¬t.startable ∧
        (∀ v ∈ s.services, v ∈ t.services) ∧
        (∀ d : ChannelNo, (s.channel d).busy = true → t.channel d = s.channel d) ∧
        t.moveQueue = s.moveQueue.filter (fun m => t.hasEntry m.elem) ∧
        (∀ m ∈ s.moveQueue, laneHeld mask m.lane = true → m ∈ t.moveQueue) ∧
        ∀ e : ElemNo,
          if t.hasEntry e = s.hasEntry e then t.elem e = s.elem e ∧ t.control e = s.control e
          else t.hasService e = true ∧ ∃ m ∈ s.moveQueue, m.elem = e ∧
            t.elem e = (s.elem e).map (Element.startMove s.config m.target) ∧
            t.control e = if (s.elem e).any (fun x => x.cls == .solidState) = true then m.target
              else s.control e)

/-- A QUERY is acted on only if it addresses the node, in RUNNING or CONFIG-FAULT, with a subject that the node
can answer there; any other has no effect. An answered one queues a REPORT into an empty report slot, replaces
the subject of one that waits, and has no effect on one that is being sent. While the REPORT is in arbitration
the subject is held beside the old one until the attempt ends (log entry 8). In STARTING and SEEDING the node
takes no frames. `n` is the element count. The last three parts read the fields of a node, element and gate
REPORT at their places in its content. That the bits of an absent location or handle are 0 beside a fault, as they are
in an empty record, is inferred (log entry 31). -/
def Obligations.QueryIsAnsweredOrIgnored : Prop :=
  (∀ s : State, s.nodeState = .starting ∨ s.nodeState = .seeding →
    exec .frameSeenQuery s = .next s) ∧
  (∀ (s : State) (a : Address) (target : Target) (q : Subject) (n : Nat),
    s.headFrame = some ⟨a, .query target q⟩ →
    (∀ e : ElemNo, (s.elem e).isSome = true ↔ e.val < n) →
    let u := { s with rxQueue := s.rxQueue.tail }
    let answered := (target.all = true ∨ target.address = s.address) ∧
      (s.nodeState = .running ∨ s.nodeState = .configFault) ∧
      (q.kind = 0 ∨ q.kind = 1 ∧ s.nodeState = .running ∧ q.index.val < n ∨
        q.kind = 2 ∧ q.index.val < 8)
    let offered := s.txQueue.any (fun y => y.inTransmission && y.item == .report) = true
    ∃ t, exec .frameSeenQuery s = .next t ∧
      (¬answered → t = u) ∧
      (answered → s.reportSlot = none → s.roomFor 1 →
        t = { u with
          reportSlot := some q, txQueue := s.txQueue ++ [⟨.report, false, false⟩] }) ∧
      (answered → s.reportSlot = none → s.restart = none →
        s.txQueue.length = Config.txCapacity →
        t = { u with txDrops := min (s.txDrops + 1) 255 }) ∧
      (answered → s.reportSlot.isSome = true → ¬offered → t = { u with reportSlot := some q }) ∧
      (answered → s.reportSlot.isSome = true → offered → (∀ p, s.txPhase ≠ .arbitrating p) → t = u) ∧
      (∀ p, s.txPhase = .arbitrating p → answered → s.reportSlot.isSome = true → offered →
        t = { u with txPhase := .arbitrating (some q) })) ∧
  (∀ (s : State) (i : Fin 16),
    let c := s.reportContent ⟨0, i⟩
    c.length = 65 ∧
    (field c 0 3 = match s.nodeState with
      | .starting => 0
      | .seeding => 1
      | .running => 2
      | .restarting => 3
      | .configFault => 4) ∧
    (field c 3 3 = match s.fault.kind with
      | none => 0
      | some .stuck => 1
      | some .dropOut => 2
      | some .supplyLost => 3
      | some .txLost => 4
      | some .rxOverrun => 5
      | some .configBad => 6) ∧
    (match s.fault.location with
      | none => field c 6 6 = 0
      | some e => field c 6 2 = 1 ∧ field c 8 4 = e.val) ∧
    (match s.fault.handle with
      | none => field c 12 10 = 0
      | some h => field c 12 1 = 1 ∧ field c 13 6 = h.anchor.val ∧ field c 19 3 = h.gate.val) ∧
    (s.bounded → field c 22 4 = s.fault.later ∧ field c 26 8 = s.badFrames ∧ field c 34 8 = s.txDrops) ∧
    field c 42 8 = s.laneHold.toNat ∧ field c 50 1 = s.config.rotating.toNat ∧
    (field c 51 3 = if s.config.rotating = true then s.orderHead.val else 0) ∧
    (s.arbiterSafe → field c 54 5 = s.moveQueue.length) ∧
    field c 59 3 = ((List.finRange 4).filter (fun ch => decide (s.channel ch ≠ .idle))).length ∧
    field c 62 1 = s.coilOk.toNat ∧ field c 63 1 = s.quenchSensed.toNat ∧
    field c 64 1 = s.quenchDriven.toNat) ∧
  (∀ (s : State) (e : ElemNo) (x : Element), s.elem e = some x →
    let c := s.reportContent ⟨1, e⟩
    c.length = 52 ∧
    (field c 0 4 = match x.state with
      | .free => 0
      | .claimed => 1
      | .waiting => 2
      | .moving => 3
      | .verifying => 4
      | .set => 5
      | .live => 6
      | .returning => 7
      | .fault => 8) ∧
    field c 4 4 = (x.commanded.map (·.val)).getD 15 ∧
    (field c 8 4 = match x.sensed with
      | .throw t => t.val
      | .noContact => 14
      | .multi => 15) ∧
    (field c 12 2 = match x.half with
      | .zero => 0
      | .one => 1
      | .unknown => 2
      | .absent => 3) ∧
    (match x.owner with
      | none => field c 14 11 = 0
      | some o => field c 14 1 = 1 ∧ field c 15 6 = o.handle.anchor.val ∧
        field c 21 3 = o.handle.gate.val ∧ field c 24 1 = o.tentative.toNat) ∧
    field c 25 1 = x.retry.toNat ∧ (x.wear ≤ 16777215 → field c 26 24 = x.wear) ∧
    field c 50 1 = x.wearWarning.toNat ∧ field c 51 1 = x.faultLatch.toNat) ∧
  ∀ (s : State) (g : Gate),
    let c := s.reportContent ⟨2, Fin.ofNat 16 g.val⟩
    let sl := s.slot g
    c.length = 58 ∧
    (field c 0 3 = match sl.state with
      | .idle => 0
      | .collecting => 1
      | .hot => 2
      | .quenching => 3
      | .stepping => 4
      | .held => 5
      | .releasing => 6) ∧
    (sl.hops.length ≤ 8 → field c 3 4 = sl.hops.length) ∧ field c 7 8 = sl.ready.toNat ∧
    match sl.scan with
    | none => field c 15 43 = 0
    | some sc => field c 15 1 = 1 ∧ field c 16 12 = sc.throws.toNat ∧ field c 28 4 = sc.current.val ∧
      (sc.dwell ≤ 255 → field c 32 8 = sc.dwell) ∧ (sc.cycles ≤ 255 → field c 40 8 = sc.cycles) ∧
      field c 48 1 = sc.pending.toNat ∧ (sc.overrun ≤ 255 → field c 49 8 = sc.overrun) ∧
      field c 57 1 = sc.ended.toNat

/-- CLEARFAULT, from any station, at a RUNNING node that its target addresses: the fault record is emptied, every
fault latch cleared, and each FAULT element without owner goes to FREE with commanded throw and half memory from
its sensed throw, its hold as it was. No frame is queued and nothing else is touched. At a node that is not
RUNNING or not addressed it has no effect. -/
def Obligations.ClearFaultEmptiesRecord : Prop :=
  ∀ (s : State) (a : Address) (target : Target), s.headFrame = some ⟨a, .clearFault target⟩ →
    let u := { s with rxQueue := s.rxQueue.tail }
    let acts := s.nodeState = .running ∧ (target.all = true ∨ target.address = s.address)
    ∃ t, exec .frameSeenClearfault s = .next t ∧
      (¬acts → t = u) ∧
      (acts →
        t = { u with elems := t.elems, fault := ⟨none, none, none, 0⟩ } ∧ t.faultOutput = false ∧
        ∀ e : ElemNo, t.elem e = (s.elem e).map (fun x =>
          let valid := match x.sensed with
            | .throw k => some k
            | .noContact => none
            | .multi => none
          if x.state = .fault ∧ x.owner = none then
            { x.toFree with
              faultLatch := false, commanded := valid
              half := if x.cascaded = true then
                  (match valid with
                    | some k => if k.val < (x.throws + 1) / 2 then .zero else .one
                    | none => .unknown)
                else x.half }
          else { x with faultLatch := false }))

/-- RESTART, from any station, at a RUNNING node that its target addresses begins a warm restart: the restart
drive reason holds, every gate closes with no COLD queued and every slot's timers stop. The teardown frames are
a BREAK for each handle held that another node anchors, in ascending handle order, but for those a drop-out
BREAK in the transmit queue covers, then a RELEASE for each slot with a path, in ascending gate order; they join
the transmit queue while it has room, and the rest wait outside in that order. Waited for are those queued and
those adopted: the drop-out BREAKs and the RELEASEs of RELEASING slots in the transmit queue. The node's own
BREAKs and RELEASEs that stand in the receive queue are noted as sent, which is the model's way to keep them
apart (log entry 12). That a stopped quench timer's purpose and the step throw become absent is inferred (log
entry 20), and so is that the withdrawal step is a command to come even with no teardown frame (log entry 19).
At a node that is not RUNNING or not addressed RESTART has no effect. -/
def Obligations.RestartBegins : Prop :=
  ∀ (s : State) (a : Address) (target : Target), s.headFrame = some ⟨a, .restart target⟩ →
    let u := { s with rxQueue := s.rxQueue.tail }
    let acts := s.nodeState = .running ∧ (target.all = true ∨ target.address = s.address)
    ∃ t, exec .frameSeenRestart s = .next t ∧
      (¬acts → t = u) ∧
      (acts → s.txQueue.length ≤ Config.txCapacity →
        ∃ hs : List Handle,
          hs.Pairwise (fun x y => handleKey x < handleKey y) ∧
          (∀ h : Handle, h ∈ hs ↔ s.holds h = true ∧ h.anchor ≠ s.address ∧
            ∀ y ∈ s.txQueue, ∀ m, y.item ≠ .frame (.brk h m 19)) ∧
          let frames : List Frame := hs.map (fun h => .brk h (s.maskOf h) 18) ++
            (allGates.filter (fun g => (s.slot g).state != .idle && (s.slot g).state != .releasing)).map
              (fun g => .release ⟨s.address, g⟩ 18)
          let room := 24 - s.txQueue.length
          t = { u with
            nodeState := .restarting, restartDrive := true
            gateOut := Vector.replicate 8 false, slots := t.slots
            txQueue := s.txQueue ++ (frames.take room).map (fun f => ⟨.frame f, false, false⟩)
            restart := some {
              waiting := frames.drop room
              outstanding :=
                s.txQueue.filterMap (fun y => match y.item with
                  | .frame (.brk h _ r) => if r = 19 then some (.brk h) else none
                  | .frame (.release h _) =>
                    if (s.slot h.gate).state = .releasing then some (.release h) else none
                  | _ => none) ++
                (frames.take room).filterMap Frame.teardown
              withdrawn := false
              sent := s.rxQueue.tail.filterMap (fun y =>
                if y.sender = s.address then y.frame.teardown else none) } } ∧
          ∀ g : Gate, t.slot g = { s.slot g with
            timer := none, quenchTimer := none, purpose := none, stepThrow := none })

/-- The middle of a warm restart. A teardown frame that waits outside joins the queue when there is room. The
withdrawal step, which comes once none waits and all are accounted for, withdraws every pending move and resets
lane hold and lane order. A BREAK or RELEASE of the node's own that is seen is accounted for, unless it was sent
before the restart (log entry 12), and does nothing to slots or elements. That the withdrawal is a command of
its own, and not part of the last accounting, is inferred (log entry 19). A step whose condition does not hold
is no event, which is the model's choice (log entry 5). -/
def Obligations.RestartProceeds : Prop :=
  ∀ (s : State) (r : RestartSeq), s.restart = some r →
    (∀ f fs, r.waiting = f :: fs → s.txQueue.length < Config.txCapacity →
      exec .teardownFrameQueued s = .next { s with
        txQueue := s.txQueue ++ [⟨.frame f, false, false⟩]
        restart := some { r with
          waiting := fs, outstanding := r.outstanding ++ f.teardown.toList } }) ∧
    (r.waiting = [] ∨ s.txQueue.length = Config.txCapacity →
      exec .teardownFrameQueued s = .next s) ∧
    (r.waiting = [] → r.outstanding = [] → r.withdrawn = false →
      exec .restartWithdrawalStep s = .next { s with
        moveQueue := [], laneHold := 0, orderHead := 0
        restart := some { r with withdrawn := true } }) ∧
    (r.waiting ≠ [] ∨ r.outstanding ≠ [] → exec .restartWithdrawalStep s = .next s) ∧
    (∀ h m w, s.nodeState = .restarting →
      s.headFrame = some ⟨s.address, .brk h m w⟩ →
      exec .frameSeenBreak s = .next { s with
        rxQueue := s.rxQueue.tail
        breaksOut := if w = 19 then s.breaksOut.erase h else s.breaksOut
        restart := some (if .brk h ∈ r.sent then { r with sent := r.sent.erase (.brk h) }
          else { r with outstanding := r.outstanding.erase (.brk h) }) }) ∧
    (∀ h w, s.nodeState = .restarting → h.anchor = s.address →
      s.headFrame = some ⟨s.address, .release h w⟩ →
      exec .frameSeenRelease s = .next { s with
        rxQueue := s.rxQueue.tail
        restart := some (if .release h ∈ r.sent then { r with sent := r.sent.erase (.release h) }
          else { r with outstanding := r.outstanding.erase (.release h) }) })

/-- The release step, once the withdrawal step has been and no move is in service, ends the restart. A CLAIMED
element goes to FREE. A WAITING, VERIFYING, SET or LIVE one, and one in FAULT with an owner, takes release
processing: FAULT by its latch, RETURNING to throw 0 or to its park throw, or FREE. Others stay, and a RETURNING
one whose move was withdrawn has it queued again. Each such move is in lane 7, and it is pending or has started, with
the record of O17.
Then an F element that is not RETURNING has its hold released, commanded to 0, with one more actuation. Slots,
gates and queues are emptied, but for a frame in transmission, which leaves with its attempt; no lane is held
and the lane order is 0 to 7; the node is RUNNING, Started is queued, and every move that can start has started.
Before that the command is no event, which is the model's choice (log entry 5); that the order is reset here
again is the model's reading (log entry 29), and that the emptying of the receive queue accounts for no drop-out
BREAK is inferred (log entry 12). -/
def Obligations.RestartEnds : Prop :=
  ∀ (s : State) (r : RestartSeq), s.restart = some r →
    (r.withdrawn = false ∨ s.services ≠ [] → exec .restartReleaseStep s = .next s) ∧
    (r.withdrawn = true → s.services = [] → s.arbiterSafe → s.statesSafe →
      s.nodeState = .restarting →
      (s.txQueue.filter (fun y => y.inTransmission)).length < Config.txCapacity →
      ∃ t, exec .restartReleaseStep s = .next t ∧
        t = { s with
          nodeState := .running, restartDrive := false, restart := none
          slots := Vector.replicate 8 Slot.idle, gateOut := Vector.replicate 8 false
          extTable := [], rxQueue := [], laneHold := 0, orderHead := 0
          txQueue := (s.txQueue.filter (fun y => y.inTransmission)).map
              (fun y => { y with leaving := true }) ++
            [⟨.frame (.notice .started none 0), false, false⟩]
          reportSlot := if s.txQueue.any (fun y => y.inTransmission && y.item == .report) = true
            then s.reportSlot else none
          elems := t.elems, controls := t.controls, moveQueue := t.moveQueue
          services := t.services, channels := t.channels } ∧
        ¬t.grantable ∧ ¬t.startable ∧
        ∀ (e : ElemNo) (x : Element), s.elem e = some x →
          let back : Option Throw :=
            if x.cls = .failsafe then (if x.commanded ≠ some 0 ∨ x.hold ≠ none then some 0 else none)
            else if x.commanded ≠ x.park then x.park else none
          let y := { x with
            owner := none, retry := false, releaseOnCompletion := false, mismatchRun := 0
            stepTarget := false, verifyDue := false }
          let taken : Element :=
            if x.state = .claimed then x.toFree
            else if x.state = .waiting ∨ x.state = .verifying ∨ x.exposed = true ∨
                x.state = .fault ∧ x.owner ≠ none then
              if x.faultLatch = true then { y with state := .fault, target := none }
              else if back ≠ none then { y with state := .returning, target := back }
              else { y with state := .free, target := none }
            else x
          let wear := min (x.wear + 1) 16777215
          let z : Element :=
            if x.cls = .failsafe ∧ x.hold ≠ none ∧ taken.state ≠ .returning then
              { taken with
                hold := none, commanded := some 0, mismatchRun := 0, wear := wear
                wearWarning := warningOf s.config .failsafe wear }
            else taken
          x.state ≠ .moving ∧
          (t.hasService e = false → t.elem e = some z ∧ t.control e = s.control e) ∧
          (z.state ≠ .returning → t.hasEntry e = false ∧ t.hasService e = false) ∧
          (z.state = .returning → z.verifyDue = false → t.hasEntry e = true ∨ t.hasService e = true) ∧
          (∀ m ∈ t.moveQueue, m.elem = e →
            m ∈ s.moveQueue ∧ x.state = .returning ∨ m.lane = 7 ∧ some m.target = z.target) ∧
          ∀ v ∈ t.services, v.elem = e →
            (v.lane = 7 ∧ some v.target = z.target ∨
              x.state = .returning ∧
                ∃ m ∈ s.moveQueue, m.elem = e ∧ m.lane = v.lane ∧ m.target = v.target) ∧
            t.elem e = some (z.startMove s.config v.target) ∧
            t.control e = if x.cls = .solidState then v.target else s.control e)

/-! ### The headline statements -/

/-- A frame whose fields fit its layout, as its sender puts it on the line, is the frame that a receiver takes:
the kind, the class and the length are right, the CRC agrees, and no field of it is lost. -/
def Obligations.FrameRoundTrip : Prop :=
  ∀ (a : Address) (f : Frame), f.fits →
    Frame.ofRaw (f.toRaw a) = some f ∧ (f.toRaw a).sender.toFin = a ∧
      (f.toRaw a).crc = rawCrc (f.toRaw a) ∧ (f.toRaw a).payload.length ≤ 12

/-- Every step keeps the laws of the anchor unit and of the frames the node holds, each by itself: a gate is open only at a HOT slot of a RUNNING
node; a HOT or HELD slot has every hop ready; a slot's timers, purpose and ready set are as its state says; a
scan's current throw and the throw in flight are in its set; every frame received, queued, on the line or waiting
outside fits its layout, an extension entry names 1 to 4 hops, a slot that is not IDLE holds 1 to 8, and a step throw
is at most 11. -/
def Obligations.StepKeepsGatesAndSlots : Prop :=
  ∀ s t : State, step s = .next t →
    (s.gatesSafe → t.gatesSafe) ∧ (s.readySafe → t.readySafe) ∧ (s.slotsSafe → t.slotsSafe) ∧
      (s.scanSafe → t.scanSafe) ∧ (s.framesSafe → t.framesSafe)

/-- Every step keeps the law of the arbiter together with what each element's state says of its record: no
element has two moves, no move is pending or in service but for an element on its way, an entry is marked as its
class and target ask, no channel pulses but for a move in service, and in SEEDING every element is FREE and no move is
pending or in service. -/
def Obligations.StepKeepsArbiterAndStates : Prop :=
  ∀ s t : State, step s = .next t → s.arbiterSafe → s.statesSafe → t.arbiterSafe ∧ t.statesSafe

/-- Every step keeps the law of the element records: wear within its bounds with the warning it gives, holds and
half memories only where the class has them, at most one mismatch run up, since the read that would make it two
ends the run in the same command (inferred, log entry 25), and image figures within their ranges where a record is in
use; and that of the control inputs, which stand at
another throw than 0 for S elements only. And but for a cold start no command changes a record's class, throw
count, cascaded mark, park throw or base count, nor brings a record into use or out of it, and no wear count
falls. -/
def Obligations.StepKeepsElementRecords : Prop :=
  (∀ s t : State, step s = .next t →
    (s.recordsSafe → t.recordsSafe) ∧ (s.controlsSafe → t.controlsSafe)) ∧
  ∀ (c : Instr) (s t : State), exec c s = .next t → c ≠ .resetLow →
    (∀ image, c ≠ .imageReadDone image) → s.recordsSafe →
    ∀ e : ElemNo, (t.elem e).isSome = (s.elem e).isSome ∧
      ∀ x, s.elem e = some x → ∀ y, t.elem e = some y →
        y.cls = x.cls ∧ y.throws = x.throws ∧ y.cascaded = x.cascaded ∧ y.park = x.park ∧
          y.baseWear = x.baseWear ∧ x.wear ≤ y.wear

/-- Every step keeps the bounds of the queues, tables and counts, those of a scan record among them, the drive reasons and the restart sequence with
the node state they belong to, and the extension table empty until the node takes frames. -/
def Obligations.StepKeepsBoundsAndDrives : Prop :=
  ∀ s t : State, step s = .next t →
    (s.bounded → t.bounded) ∧ (s.drivesSafe → t.drivesSafe) ∧ (s.extensionsSafe → t.extensionsSafe)

/-- Cold switching: whatever command the node takes, an element that is exposed before and after it keeps its
commanded throw, its hold and its control inputs, and no channel pulses for it. And an element that is exposed leaves
SET and LIVE by these commands only: RESET_LOW; a read of its group that shows another value than its commanded throw
for the second time in a row; a COLD step of its owner's anchor that names its hop, or a RELEASE of its handle, seen in
RUNNING; and the release step of a warm restart. -/
def Obligations.ExposedElementIsNotMoved : Prop :=
  ∀ (c : Instr) (s t : State), exec c s = .next t → s.arbiterSafe → s.statesSafe →
    ∀ (e : ElemNo) (x : Element), s.elem e = some x → x.exposed = true →
      (∀ y, t.elem e = some y → y.exposed = true →
        y.commanded = x.commanded ∧ y.hold = x.hold ∧ t.control e = s.control e ∧
          ∀ ch, (t.channel ch).pulses e = false) ∧
      ((∃ y, t.elem e = some y ∧ y.exposed = true) ∨
        c = .resetLow ∨
        (∃ contacts, c = .senseGroupRead contacts ∧ e.val / 8 = s.scanReads % 2 ∧ x.mismatchRun ≠ 0 ∧
          x.commanded.map Sensed.throw ≠ some (sensedOf x.throws (contacts.getD (e.val % 8) 0)) ∧
          (t.elem e).any (fun y => y.state == .fault) = true) ∨
        (c = .frameSeenCold ∧ s.nodeState = .running ∧ ∃ o, x.owner = some o ∧ ∃ k : Throw,
          s.headFrame = some ⟨o.handle.anchor, .cold o.handle (.step o.hop k)⟩) ∨
        (c = .frameSeenRelease ∧ s.nodeState = .running ∧ ∃ o, x.owner = some o ∧ ∃ r : ReasonCode,
          s.headFrame = some ⟨o.handle.anchor, .release o.handle r⟩) ∨
        c = .restartReleaseStep ∧ s.services = [] ∧ s.restart.any (·.withdrawn) = true)

/-- The fault record, once it holds a fault, keeps its kind, its location and its handle, and its count of later
faults does not fall, until a cold start or a CLEARFAULT that addresses the RUNNING node. -/
def Obligations.FaultRecordStaysLocked : Prop :=
  ∀ (c : Instr) (s t : State) (k : FaultKind), exec c s = .next t → s.fault.kind = some k →
    s.bounded → c ≠ .resetLow →
    ¬(c = .frameSeenClearfault ∧ s.nodeState = .running ∧
      ∃ a target, s.headFrame = some ⟨a, .clearFault target⟩ ∧ s.addressedBy target = true) →
    t.fault.kind = some k ∧ t.fault.location = s.fault.location ∧
      t.fault.handle = s.fault.handle ∧ s.fault.later ≤ t.fault.later ∧ t.faultOutput = true

/-- The node state changes by the causes that R164 gives and by no others; RESET low takes the node to STARTING
from every state and is the only way out of CONFIG-FAULT. A node report shows the state. -/
def Obligations.NodeStateChangesAsGiven : Prop :=
  (∀ (c : Instr) (s t : State), exec c s = .next t → s.drivesSafe → t.nodeState ≠ s.nodeState →
    c = .resetLow ∧ t.nodeState = .starting ∨
    (∃ image, c = .imageReadDone image ∧ s.nodeState = .starting ∧
      (¬imageFaulty image ∧ t.nodeState = .seeding ∨ imageFaulty image ∧ t.nodeState = .configFault)) ∨
    (∃ contacts, c = .senseGroupRead contacts ∧ s.nodeState = .seeding ∧ t.nodeState = .running ∧
      s.scanReads % 2 = 1) ∨
    (s.nodeState = .running ∧ t.nodeState = .restarting ∧
      ((c = .frameSeenRestart ∧ ∃ a target, s.headFrame = some ⟨a, .restart target⟩ ∧
          s.addressedBy target = true) ∨
        ∃ frame flagged, c = .frameEnd frame flagged ∧ Config.rxCapacity ≤ s.rxQueue.length)) ∨
    c = .restartReleaseStep ∧ s.nodeState = .restarting ∧ t.nodeState = .running) ∧
  (∀ s : State, ∃ t, exec .resetLow s = .next t ∧ t.nodeState = .starting) ∧
  (∀ (c : Instr) (s t : State), exec c s = .next t → s.drivesSafe → s.nodeState = .configFault →
    c ≠ .resetLow → t.nodeState = .configFault) ∧
  ∀ (s : State) (i : Fin 16), (s.reportContent ⟨0, i⟩).take 3 = match s.nodeState with
    | .starting => [false, false, false]
    | .seeding => [false, false, true]
    | .running => [false, true, false]
    | .restarting => [false, true, true]
    | .configFault => [true, false, false]

/-- The arbiter leaves nothing to be started: no step, the one from SEEDING to RUNNING among them, leaves a move that
could be granted or started if none was left before it. -/
def Obligations.StepLeavesNothingToStart : Prop :=
  ∀ s t : State, step s = .next t → s.arbiterSafe → s.statesSafe →
    ¬s.grantable → ¬s.startable → ¬t.grantable ∧ ¬t.startable
end

