-- ==== Sys2Proof/Laws/State.lean ====
section
/-!
SUPPORT. The plain updates of the state: which field each leaves as it was (one lemma a field, by rfl),
and what reading a record gives after writing one.
-/

namespace Sys2Proof.Machine

/-! ### Fields that a plain update leaves -/

@[simp] theorem State.setElem_nodeState (s : State) (e : ElemNo) (x : Element) :
    (s.setElem e x).nodeState = s.nodeState := rfl
@[simp] theorem State.setElem_loader (s : State) (e : ElemNo) (x : Element) :
    (s.setElem e x).loader = s.loader := rfl
@[simp] theorem State.setElem_address (s : State) (e : ElemNo) (x : Element) :
    (s.setElem e x).address = s.address := rfl
@[simp] theorem State.setElem_spi (s : State) (e : ElemNo) (x : Element) :
    (s.setElem e x).spi = s.spi := rfl
@[simp] theorem State.setElem_config (s : State) (e : ElemNo) (x : Element) :
    (s.setElem e x).config = s.config := rfl
@[simp] theorem State.setElem_controls (s : State) (e : ElemNo) (x : Element) :
    (s.setElem e x).controls = s.controls := rfl
@[simp] theorem State.setElem_moveQueue (s : State) (e : ElemNo) (x : Element) :
    (s.setElem e x).moveQueue = s.moveQueue := rfl
@[simp] theorem State.setElem_services (s : State) (e : ElemNo) (x : Element) :
    (s.setElem e x).services = s.services := rfl
@[simp] theorem State.setElem_channels (s : State) (e : ElemNo) (x : Element) :
    (s.setElem e x).channels = s.channels := rfl
@[simp] theorem State.setElem_orderHead (s : State) (e : ElemNo) (x : Element) :
    (s.setElem e x).orderHead = s.orderHead := rfl
@[simp] theorem State.setElem_laneHold (s : State) (e : ElemNo) (x : Element) :
    (s.setElem e x).laneHold = s.laneHold := rfl
@[simp] theorem State.setElem_coilOk (s : State) (e : ElemNo) (x : Element) :
    (s.setElem e x).coilOk = s.coilOk := rfl
@[simp] theorem State.setElem_scanClock (s : State) (e : ElemNo) (x : Element) :
    (s.setElem e x).scanClock = s.scanClock := rfl
@[simp] theorem State.setElem_scanReads (s : State) (e : ElemNo) (x : Element) :
    (s.setElem e x).scanReads = s.scanReads := rfl
@[simp] theorem State.setElem_lineState (s : State) (e : ElemNo) (x : Element) :
    (s.setElem e x).lineState = s.lineState := rfl
@[simp] theorem State.setElem_txQueue (s : State) (e : ElemNo) (x : Element) :
    (s.setElem e x).txQueue = s.txQueue := rfl
@[simp] theorem State.setElem_txPhase (s : State) (e : ElemNo) (x : Element) :
    (s.setElem e x).txPhase = s.txPhase := rfl
@[simp] theorem State.setElem_rxQueue (s : State) (e : ElemNo) (x : Element) :
    (s.setElem e x).rxQueue = s.rxQueue := rfl
@[simp] theorem State.setElem_extTable (s : State) (e : ElemNo) (x : Element) :
    (s.setElem e x).extTable = s.extTable := rfl
@[simp] theorem State.setElem_badFrames (s : State) (e : ElemNo) (x : Element) :
    (s.setElem e x).badFrames = s.badFrames := rfl
@[simp] theorem State.setElem_txDrops (s : State) (e : ElemNo) (x : Element) :
    (s.setElem e x).txDrops = s.txDrops := rfl
@[simp] theorem State.setElem_reportSlot (s : State) (e : ElemNo) (x : Element) :
    (s.setElem e x).reportSlot = s.reportSlot := rfl
@[simp] theorem State.setElem_slots (s : State) (e : ElemNo) (x : Element) :
    (s.setElem e x).slots = s.slots := rfl
@[simp] theorem State.setElem_gateOut (s : State) (e : ElemNo) (x : Element) :
    (s.setElem e x).gateOut = s.gateOut := rfl
@[simp] theorem State.setElem_quenchSensed (s : State) (e : ElemNo) (x : Element) :
    (s.setElem e x).quenchSensed = s.quenchSensed := rfl
@[simp] theorem State.setElem_startUpDrive (s : State) (e : ElemNo) (x : Element) :
    (s.setElem e x).startUpDrive = s.startUpDrive := rfl
@[simp] theorem State.setElem_restartDrive (s : State) (e : ElemNo) (x : Element) :
    (s.setElem e x).restartDrive = s.restartDrive := rfl
@[simp] theorem State.setElem_breaksOut (s : State) (e : ElemNo) (x : Element) :
    (s.setElem e x).breaksOut = s.breaksOut := rfl
@[simp] theorem State.setElem_fault (s : State) (e : ElemNo) (x : Element) :
    (s.setElem e x).fault = s.fault := rfl
@[simp] theorem State.setElem_restart (s : State) (e : ElemNo) (x : Element) :
    (s.setElem e x).restart = s.restart := rfl
@[simp] theorem State.setElem_freeCount (s : State) (e : ElemNo) (x : Element) :
    (s.setElem e x).freeCount = s.freeCount := rfl
@[simp] theorem State.setElem_pending (s : State) (e : ElemNo) (x : Element) :
    (s.setElem e x).pending = s.pending := rfl

@[simp] theorem State.setSlot_nodeState (s : State) (g : Gate) (sl : Slot) :
    (s.setSlot g sl).nodeState = s.nodeState := rfl
@[simp] theorem State.setSlot_loader (s : State) (g : Gate) (sl : Slot) :
    (s.setSlot g sl).loader = s.loader := rfl
@[simp] theorem State.setSlot_address (s : State) (g : Gate) (sl : Slot) :
    (s.setSlot g sl).address = s.address := rfl
@[simp] theorem State.setSlot_spi (s : State) (g : Gate) (sl : Slot) :
    (s.setSlot g sl).spi = s.spi := rfl
@[simp] theorem State.setSlot_config (s : State) (g : Gate) (sl : Slot) :
    (s.setSlot g sl).config = s.config := rfl
@[simp] theorem State.setSlot_controls (s : State) (g : Gate) (sl : Slot) :
    (s.setSlot g sl).controls = s.controls := rfl
@[simp] theorem State.setSlot_elems (s : State) (g : Gate) (sl : Slot) :
    (s.setSlot g sl).elems = s.elems := rfl
@[simp] theorem State.setSlot_moveQueue (s : State) (g : Gate) (sl : Slot) :
    (s.setSlot g sl).moveQueue = s.moveQueue := rfl
@[simp] theorem State.setSlot_services (s : State) (g : Gate) (sl : Slot) :
    (s.setSlot g sl).services = s.services := rfl
@[simp] theorem State.setSlot_channels (s : State) (g : Gate) (sl : Slot) :
    (s.setSlot g sl).channels = s.channels := rfl
@[simp] theorem State.setSlot_orderHead (s : State) (g : Gate) (sl : Slot) :
    (s.setSlot g sl).orderHead = s.orderHead := rfl
@[simp] theorem State.setSlot_laneHold (s : State) (g : Gate) (sl : Slot) :
    (s.setSlot g sl).laneHold = s.laneHold := rfl
@[simp] theorem State.setSlot_coilOk (s : State) (g : Gate) (sl : Slot) :
    (s.setSlot g sl).coilOk = s.coilOk := rfl
@[simp] theorem State.setSlot_scanClock (s : State) (g : Gate) (sl : Slot) :
    (s.setSlot g sl).scanClock = s.scanClock := rfl
@[simp] theorem State.setSlot_scanReads (s : State) (g : Gate) (sl : Slot) :
    (s.setSlot g sl).scanReads = s.scanReads := rfl
@[simp] theorem State.setSlot_lineState (s : State) (g : Gate) (sl : Slot) :
    (s.setSlot g sl).lineState = s.lineState := rfl
@[simp] theorem State.setSlot_txQueue (s : State) (g : Gate) (sl : Slot) :
    (s.setSlot g sl).txQueue = s.txQueue := rfl
@[simp] theorem State.setSlot_txPhase (s : State) (g : Gate) (sl : Slot) :
    (s.setSlot g sl).txPhase = s.txPhase := rfl
@[simp] theorem State.setSlot_rxQueue (s : State) (g : Gate) (sl : Slot) :
    (s.setSlot g sl).rxQueue = s.rxQueue := rfl
@[simp] theorem State.setSlot_extTable (s : State) (g : Gate) (sl : Slot) :
    (s.setSlot g sl).extTable = s.extTable := rfl
@[simp] theorem State.setSlot_badFrames (s : State) (g : Gate) (sl : Slot) :
    (s.setSlot g sl).badFrames = s.badFrames := rfl
@[simp] theorem State.setSlot_txDrops (s : State) (g : Gate) (sl : Slot) :
    (s.setSlot g sl).txDrops = s.txDrops := rfl
@[simp] theorem State.setSlot_reportSlot (s : State) (g : Gate) (sl : Slot) :
    (s.setSlot g sl).reportSlot = s.reportSlot := rfl
@[simp] theorem State.setSlot_gateOut (s : State) (g : Gate) (sl : Slot) :
    (s.setSlot g sl).gateOut = s.gateOut := rfl
@[simp] theorem State.setSlot_quenchSensed (s : State) (g : Gate) (sl : Slot) :
    (s.setSlot g sl).quenchSensed = s.quenchSensed := rfl
@[simp] theorem State.setSlot_startUpDrive (s : State) (g : Gate) (sl : Slot) :
    (s.setSlot g sl).startUpDrive = s.startUpDrive := rfl
@[simp] theorem State.setSlot_restartDrive (s : State) (g : Gate) (sl : Slot) :
    (s.setSlot g sl).restartDrive = s.restartDrive := rfl
@[simp] theorem State.setSlot_breaksOut (s : State) (g : Gate) (sl : Slot) :
    (s.setSlot g sl).breaksOut = s.breaksOut := rfl
@[simp] theorem State.setSlot_fault (s : State) (g : Gate) (sl : Slot) :
    (s.setSlot g sl).fault = s.fault := rfl
@[simp] theorem State.setSlot_restart (s : State) (g : Gate) (sl : Slot) :
    (s.setSlot g sl).restart = s.restart := rfl
@[simp] theorem State.setSlot_freeCount (s : State) (g : Gate) (sl : Slot) :
    (s.setSlot g sl).freeCount = s.freeCount := rfl
@[simp] theorem State.setSlot_pending (s : State) (g : Gate) (sl : Slot) :
    (s.setSlot g sl).pending = s.pending := rfl

@[simp] theorem State.setGate_nodeState (s : State) (g : Gate) (b : Bool) :
    (s.setGate g b).nodeState = s.nodeState := rfl
@[simp] theorem State.setGate_loader (s : State) (g : Gate) (b : Bool) :
    (s.setGate g b).loader = s.loader := rfl
@[simp] theorem State.setGate_address (s : State) (g : Gate) (b : Bool) :
    (s.setGate g b).address = s.address := rfl
@[simp] theorem State.setGate_spi (s : State) (g : Gate) (b : Bool) :
    (s.setGate g b).spi = s.spi := rfl
@[simp] theorem State.setGate_config (s : State) (g : Gate) (b : Bool) :
    (s.setGate g b).config = s.config := rfl
@[simp] theorem State.setGate_controls (s : State) (g : Gate) (b : Bool) :
    (s.setGate g b).controls = s.controls := rfl
@[simp] theorem State.setGate_elems (s : State) (g : Gate) (b : Bool) :
    (s.setGate g b).elems = s.elems := rfl
@[simp] theorem State.setGate_moveQueue (s : State) (g : Gate) (b : Bool) :
    (s.setGate g b).moveQueue = s.moveQueue := rfl
@[simp] theorem State.setGate_services (s : State) (g : Gate) (b : Bool) :
    (s.setGate g b).services = s.services := rfl
@[simp] theorem State.setGate_channels (s : State) (g : Gate) (b : Bool) :
    (s.setGate g b).channels = s.channels := rfl
@[simp] theorem State.setGate_orderHead (s : State) (g : Gate) (b : Bool) :
    (s.setGate g b).orderHead = s.orderHead := rfl
@[simp] theorem State.setGate_laneHold (s : State) (g : Gate) (b : Bool) :
    (s.setGate g b).laneHold = s.laneHold := rfl
@[simp] theorem State.setGate_coilOk (s : State) (g : Gate) (b : Bool) :
    (s.setGate g b).coilOk = s.coilOk := rfl
@[simp] theorem State.setGate_scanClock (s : State) (g : Gate) (b : Bool) :
    (s.setGate g b).scanClock = s.scanClock := rfl
@[simp] theorem State.setGate_scanReads (s : State) (g : Gate) (b : Bool) :
    (s.setGate g b).scanReads = s.scanReads := rfl
@[simp] theorem State.setGate_lineState (s : State) (g : Gate) (b : Bool) :
    (s.setGate g b).lineState = s.lineState := rfl
@[simp] theorem State.setGate_txQueue (s : State) (g : Gate) (b : Bool) :
    (s.setGate g b).txQueue = s.txQueue := rfl
@[simp] theorem State.setGate_txPhase (s : State) (g : Gate) (b : Bool) :
    (s.setGate g b).txPhase = s.txPhase := rfl
@[simp] theorem State.setGate_rxQueue (s : State) (g : Gate) (b : Bool) :
    (s.setGate g b).rxQueue = s.rxQueue := rfl
@[simp] theorem State.setGate_extTable (s : State) (g : Gate) (b : Bool) :
    (s.setGate g b).extTable = s.extTable := rfl
@[simp] theorem State.setGate_badFrames (s : State) (g : Gate) (b : Bool) :
    (s.setGate g b).badFrames = s.badFrames := rfl
@[simp] theorem State.setGate_txDrops (s : State) (g : Gate) (b : Bool) :
    (s.setGate g b).txDrops = s.txDrops := rfl
@[simp] theorem State.setGate_reportSlot (s : State) (g : Gate) (b : Bool) :
    (s.setGate g b).reportSlot = s.reportSlot := rfl
@[simp] theorem State.setGate_slots (s : State) (g : Gate) (b : Bool) :
    (s.setGate g b).slots = s.slots := rfl
@[simp] theorem State.setGate_quenchSensed (s : State) (g : Gate) (b : Bool) :
    (s.setGate g b).quenchSensed = s.quenchSensed := rfl
@[simp] theorem State.setGate_startUpDrive (s : State) (g : Gate) (b : Bool) :
    (s.setGate g b).startUpDrive = s.startUpDrive := rfl
@[simp] theorem State.setGate_restartDrive (s : State) (g : Gate) (b : Bool) :
    (s.setGate g b).restartDrive = s.restartDrive := rfl
@[simp] theorem State.setGate_breaksOut (s : State) (g : Gate) (b : Bool) :
    (s.setGate g b).breaksOut = s.breaksOut := rfl
@[simp] theorem State.setGate_fault (s : State) (g : Gate) (b : Bool) :
    (s.setGate g b).fault = s.fault := rfl
@[simp] theorem State.setGate_restart (s : State) (g : Gate) (b : Bool) :
    (s.setGate g b).restart = s.restart := rfl
@[simp] theorem State.setGate_freeCount (s : State) (g : Gate) (b : Bool) :
    (s.setGate g b).freeCount = s.freeCount := rfl
@[simp] theorem State.setGate_pending (s : State) (g : Gate) (b : Bool) :
    (s.setGate g b).pending = s.pending := rfl

@[simp] theorem State.setChannel_nodeState (s : State) (c : ChannelNo) (ch : Channel) :
    (s.setChannel c ch).nodeState = s.nodeState := rfl
@[simp] theorem State.setChannel_loader (s : State) (c : ChannelNo) (ch : Channel) :
    (s.setChannel c ch).loader = s.loader := rfl
@[simp] theorem State.setChannel_address (s : State) (c : ChannelNo) (ch : Channel) :
    (s.setChannel c ch).address = s.address := rfl
@[simp] theorem State.setChannel_spi (s : State) (c : ChannelNo) (ch : Channel) :
    (s.setChannel c ch).spi = s.spi := rfl
@[simp] theorem State.setChannel_config (s : State) (c : ChannelNo) (ch : Channel) :
    (s.setChannel c ch).config = s.config := rfl
@[simp] theorem State.setChannel_controls (s : State) (c : ChannelNo) (ch : Channel) :
    (s.setChannel c ch).controls = s.controls := rfl
@[simp] theorem State.setChannel_elems (s : State) (c : ChannelNo) (ch : Channel) :
    (s.setChannel c ch).elems = s.elems := rfl
@[simp] theorem State.setChannel_moveQueue (s : State) (c : ChannelNo) (ch : Channel) :
    (s.setChannel c ch).moveQueue = s.moveQueue := rfl
@[simp] theorem State.setChannel_services (s : State) (c : ChannelNo) (ch : Channel) :
    (s.setChannel c ch).services = s.services := rfl
@[simp] theorem State.setChannel_orderHead (s : State) (c : ChannelNo) (ch : Channel) :
    (s.setChannel c ch).orderHead = s.orderHead := rfl
@[simp] theorem State.setChannel_laneHold (s : State) (c : ChannelNo) (ch : Channel) :
    (s.setChannel c ch).laneHold = s.laneHold := rfl
@[simp] theorem State.setChannel_coilOk (s : State) (c : ChannelNo) (ch : Channel) :
    (s.setChannel c ch).coilOk = s.coilOk := rfl
@[simp] theorem State.setChannel_scanClock (s : State) (c : ChannelNo) (ch : Channel) :
    (s.setChannel c ch).scanClock = s.scanClock := rfl
@[simp] theorem State.setChannel_scanReads (s : State) (c : ChannelNo) (ch : Channel) :
    (s.setChannel c ch).scanReads = s.scanReads := rfl
@[simp] theorem State.setChannel_lineState (s : State) (c : ChannelNo) (ch : Channel) :
    (s.setChannel c ch).lineState = s.lineState := rfl
@[simp] theorem State.setChannel_txQueue (s : State) (c : ChannelNo) (ch : Channel) :
    (s.setChannel c ch).txQueue = s.txQueue := rfl
@[simp] theorem State.setChannel_txPhase (s : State) (c : ChannelNo) (ch : Channel) :
    (s.setChannel c ch).txPhase = s.txPhase := rfl
@[simp] theorem State.setChannel_rxQueue (s : State) (c : ChannelNo) (ch : Channel) :
    (s.setChannel c ch).rxQueue = s.rxQueue := rfl
@[simp] theorem State.setChannel_extTable (s : State) (c : ChannelNo) (ch : Channel) :
    (s.setChannel c ch).extTable = s.extTable := rfl
@[simp] theorem State.setChannel_badFrames (s : State) (c : ChannelNo) (ch : Channel) :
    (s.setChannel c ch).badFrames = s.badFrames := rfl
@[simp] theorem State.setChannel_txDrops (s : State) (c : ChannelNo) (ch : Channel) :
    (s.setChannel c ch).txDrops = s.txDrops := rfl
@[simp] theorem State.setChannel_reportSlot (s : State) (c : ChannelNo) (ch : Channel) :
    (s.setChannel c ch).reportSlot = s.reportSlot := rfl
@[simp] theorem State.setChannel_slots (s : State) (c : ChannelNo) (ch : Channel) :
    (s.setChannel c ch).slots = s.slots := rfl
@[simp] theorem State.setChannel_gateOut (s : State) (c : ChannelNo) (ch : Channel) :
    (s.setChannel c ch).gateOut = s.gateOut := rfl
@[simp] theorem State.setChannel_quenchSensed (s : State) (c : ChannelNo) (ch : Channel) :
    (s.setChannel c ch).quenchSensed = s.quenchSensed := rfl
@[simp] theorem State.setChannel_startUpDrive (s : State) (c : ChannelNo) (ch : Channel) :
    (s.setChannel c ch).startUpDrive = s.startUpDrive := rfl
@[simp] theorem State.setChannel_restartDrive (s : State) (c : ChannelNo) (ch : Channel) :
    (s.setChannel c ch).restartDrive = s.restartDrive := rfl
@[simp] theorem State.setChannel_breaksOut (s : State) (c : ChannelNo) (ch : Channel) :
    (s.setChannel c ch).breaksOut = s.breaksOut := rfl
@[simp] theorem State.setChannel_fault (s : State) (c : ChannelNo) (ch : Channel) :
    (s.setChannel c ch).fault = s.fault := rfl
@[simp] theorem State.setChannel_restart (s : State) (c : ChannelNo) (ch : Channel) :
    (s.setChannel c ch).restart = s.restart := rfl
@[simp] theorem State.setChannel_freeCount (s : State) (c : ChannelNo) (ch : Channel) :
    (s.setChannel c ch).freeCount = s.freeCount := rfl
@[simp] theorem State.setChannel_pending (s : State) (c : ChannelNo) (ch : Channel) :
    (s.setChannel c ch).pending = s.pending := rfl

@[simp] theorem State.elapse_nodeState (s : State) (r : Nat) :
    (s.elapse r).nodeState = s.nodeState := rfl
@[simp] theorem State.elapse_loader (s : State) (r : Nat) :
    (s.elapse r).loader = s.loader := rfl
@[simp] theorem State.elapse_address (s : State) (r : Nat) :
    (s.elapse r).address = s.address := rfl
@[simp] theorem State.elapse_spi (s : State) (r : Nat) :
    (s.elapse r).spi = s.spi := rfl
@[simp] theorem State.elapse_config (s : State) (r : Nat) :
    (s.elapse r).config = s.config := rfl
@[simp] theorem State.elapse_controls (s : State) (r : Nat) :
    (s.elapse r).controls = s.controls := rfl
@[simp] theorem State.elapse_moveQueue (s : State) (r : Nat) :
    (s.elapse r).moveQueue = s.moveQueue := rfl
@[simp] theorem State.elapse_orderHead (s : State) (r : Nat) :
    (s.elapse r).orderHead = s.orderHead := rfl
@[simp] theorem State.elapse_laneHold (s : State) (r : Nat) :
    (s.elapse r).laneHold = s.laneHold := rfl
@[simp] theorem State.elapse_coilOk (s : State) (r : Nat) :
    (s.elapse r).coilOk = s.coilOk := rfl
@[simp] theorem State.elapse_scanReads (s : State) (r : Nat) :
    (s.elapse r).scanReads = s.scanReads := rfl
@[simp] theorem State.elapse_lineState (s : State) (r : Nat) :
    (s.elapse r).lineState = s.lineState := rfl
@[simp] theorem State.elapse_txQueue (s : State) (r : Nat) :
    (s.elapse r).txQueue = s.txQueue := rfl
@[simp] theorem State.elapse_txPhase (s : State) (r : Nat) :
    (s.elapse r).txPhase = s.txPhase := rfl
@[simp] theorem State.elapse_rxQueue (s : State) (r : Nat) :
    (s.elapse r).rxQueue = s.rxQueue := rfl
@[simp] theorem State.elapse_extTable (s : State) (r : Nat) :
    (s.elapse r).extTable = s.extTable := rfl
@[simp] theorem State.elapse_badFrames (s : State) (r : Nat) :
    (s.elapse r).badFrames = s.badFrames := rfl
@[simp] theorem State.elapse_txDrops (s : State) (r : Nat) :
    (s.elapse r).txDrops = s.txDrops := rfl
@[simp] theorem State.elapse_reportSlot (s : State) (r : Nat) :
    (s.elapse r).reportSlot = s.reportSlot := rfl
@[simp] theorem State.elapse_gateOut (s : State) (r : Nat) :
    (s.elapse r).gateOut = s.gateOut := rfl
@[simp] theorem State.elapse_quenchSensed (s : State) (r : Nat) :
    (s.elapse r).quenchSensed = s.quenchSensed := rfl
@[simp] theorem State.elapse_startUpDrive (s : State) (r : Nat) :
    (s.elapse r).startUpDrive = s.startUpDrive := rfl
@[simp] theorem State.elapse_restartDrive (s : State) (r : Nat) :
    (s.elapse r).restartDrive = s.restartDrive := rfl
@[simp] theorem State.elapse_breaksOut (s : State) (r : Nat) :
    (s.elapse r).breaksOut = s.breaksOut := rfl
@[simp] theorem State.elapse_fault (s : State) (r : Nat) :
    (s.elapse r).fault = s.fault := rfl
@[simp] theorem State.elapse_restart (s : State) (r : Nat) :
    (s.elapse r).restart = s.restart := rfl
@[simp] theorem State.elapse_freeCount (s : State) (r : Nat) :
    (s.elapse r).freeCount = s.freeCount := rfl
@[simp] theorem State.elapse_pending (s : State) (r : Nat) :
    (s.elapse r).pending = s.pending := rfl

@[simp] theorem State.withdraw_nodeState (s : State) (e : ElemNo) :
    (s.withdraw e).nodeState = s.nodeState := rfl
@[simp] theorem State.withdraw_loader (s : State) (e : ElemNo) :
    (s.withdraw e).loader = s.loader := rfl
@[simp] theorem State.withdraw_address (s : State) (e : ElemNo) :
    (s.withdraw e).address = s.address := rfl
@[simp] theorem State.withdraw_spi (s : State) (e : ElemNo) :
    (s.withdraw e).spi = s.spi := rfl
@[simp] theorem State.withdraw_config (s : State) (e : ElemNo) :
    (s.withdraw e).config = s.config := rfl
@[simp] theorem State.withdraw_controls (s : State) (e : ElemNo) :
    (s.withdraw e).controls = s.controls := rfl
@[simp] theorem State.withdraw_elems (s : State) (e : ElemNo) :
    (s.withdraw e).elems = s.elems := rfl
@[simp] theorem State.withdraw_services (s : State) (e : ElemNo) :
    (s.withdraw e).services = s.services := rfl
@[simp] theorem State.withdraw_channels (s : State) (e : ElemNo) :
    (s.withdraw e).channels = s.channels := rfl
@[simp] theorem State.withdraw_orderHead (s : State) (e : ElemNo) :
    (s.withdraw e).orderHead = s.orderHead := rfl
@[simp] theorem State.withdraw_laneHold (s : State) (e : ElemNo) :
    (s.withdraw e).laneHold = s.laneHold := rfl
@[simp] theorem State.withdraw_coilOk (s : State) (e : ElemNo) :
    (s.withdraw e).coilOk = s.coilOk := rfl
@[simp] theorem State.withdraw_scanClock (s : State) (e : ElemNo) :
    (s.withdraw e).scanClock = s.scanClock := rfl
@[simp] theorem State.withdraw_scanReads (s : State) (e : ElemNo) :
    (s.withdraw e).scanReads = s.scanReads := rfl
@[simp] theorem State.withdraw_lineState (s : State) (e : ElemNo) :
    (s.withdraw e).lineState = s.lineState := rfl
@[simp] theorem State.withdraw_txQueue (s : State) (e : ElemNo) :
    (s.withdraw e).txQueue = s.txQueue := rfl
@[simp] theorem State.withdraw_txPhase (s : State) (e : ElemNo) :
    (s.withdraw e).txPhase = s.txPhase := rfl
@[simp] theorem State.withdraw_rxQueue (s : State) (e : ElemNo) :
    (s.withdraw e).rxQueue = s.rxQueue := rfl
@[simp] theorem State.withdraw_extTable (s : State) (e : ElemNo) :
    (s.withdraw e).extTable = s.extTable := rfl
@[simp] theorem State.withdraw_badFrames (s : State) (e : ElemNo) :
    (s.withdraw e).badFrames = s.badFrames := rfl
@[simp] theorem State.withdraw_txDrops (s : State) (e : ElemNo) :
    (s.withdraw e).txDrops = s.txDrops := rfl
@[simp] theorem State.withdraw_reportSlot (s : State) (e : ElemNo) :
    (s.withdraw e).reportSlot = s.reportSlot := rfl
@[simp] theorem State.withdraw_slots (s : State) (e : ElemNo) :
    (s.withdraw e).slots = s.slots := rfl
@[simp] theorem State.withdraw_gateOut (s : State) (e : ElemNo) :
    (s.withdraw e).gateOut = s.gateOut := rfl
@[simp] theorem State.withdraw_quenchSensed (s : State) (e : ElemNo) :
    (s.withdraw e).quenchSensed = s.quenchSensed := rfl
@[simp] theorem State.withdraw_startUpDrive (s : State) (e : ElemNo) :
    (s.withdraw e).startUpDrive = s.startUpDrive := rfl
@[simp] theorem State.withdraw_restartDrive (s : State) (e : ElemNo) :
    (s.withdraw e).restartDrive = s.restartDrive := rfl
@[simp] theorem State.withdraw_breaksOut (s : State) (e : ElemNo) :
    (s.withdraw e).breaksOut = s.breaksOut := rfl
@[simp] theorem State.withdraw_fault (s : State) (e : ElemNo) :
    (s.withdraw e).fault = s.fault := rfl
@[simp] theorem State.withdraw_restart (s : State) (e : ElemNo) :
    (s.withdraw e).restart = s.restart := rfl
@[simp] theorem State.withdraw_freeCount (s : State) (e : ElemNo) :
    (s.withdraw e).freeCount = s.freeCount := rfl
@[simp] theorem State.withdraw_pending (s : State) (e : ElemNo) :
    (s.withdraw e).pending = s.pending := rfl

@[simp] theorem State.withdrawWaiting_nodeState (s : State) (h : Handle) :
    (s.withdrawWaiting h).nodeState = s.nodeState := rfl
@[simp] theorem State.withdrawWaiting_loader (s : State) (h : Handle) :
    (s.withdrawWaiting h).loader = s.loader := rfl
@[simp] theorem State.withdrawWaiting_address (s : State) (h : Handle) :
    (s.withdrawWaiting h).address = s.address := rfl
@[simp] theorem State.withdrawWaiting_spi (s : State) (h : Handle) :
    (s.withdrawWaiting h).spi = s.spi := rfl
@[simp] theorem State.withdrawWaiting_config (s : State) (h : Handle) :
    (s.withdrawWaiting h).config = s.config := rfl
@[simp] theorem State.withdrawWaiting_controls (s : State) (h : Handle) :
    (s.withdrawWaiting h).controls = s.controls := rfl
@[simp] theorem State.withdrawWaiting_elems (s : State) (h : Handle) :
    (s.withdrawWaiting h).elems = s.elems := rfl
@[simp] theorem State.withdrawWaiting_services (s : State) (h : Handle) :
    (s.withdrawWaiting h).services = s.services := rfl
@[simp] theorem State.withdrawWaiting_channels (s : State) (h : Handle) :
    (s.withdrawWaiting h).channels = s.channels := rfl
@[simp] theorem State.withdrawWaiting_orderHead (s : State) (h : Handle) :
    (s.withdrawWaiting h).orderHead = s.orderHead := rfl
@[simp] theorem State.withdrawWaiting_laneHold (s : State) (h : Handle) :
    (s.withdrawWaiting h).laneHold = s.laneHold := rfl
@[simp] theorem State.withdrawWaiting_coilOk (s : State) (h : Handle) :
    (s.withdrawWaiting h).coilOk = s.coilOk := rfl
@[simp] theorem State.withdrawWaiting_scanClock (s : State) (h : Handle) :
    (s.withdrawWaiting h).scanClock = s.scanClock := rfl
@[simp] theorem State.withdrawWaiting_scanReads (s : State) (h : Handle) :
    (s.withdrawWaiting h).scanReads = s.scanReads := rfl
@[simp] theorem State.withdrawWaiting_lineState (s : State) (h : Handle) :
    (s.withdrawWaiting h).lineState = s.lineState := rfl
@[simp] theorem State.withdrawWaiting_txQueue (s : State) (h : Handle) :
    (s.withdrawWaiting h).txQueue = s.txQueue := rfl
@[simp] theorem State.withdrawWaiting_txPhase (s : State) (h : Handle) :
    (s.withdrawWaiting h).txPhase = s.txPhase := rfl
@[simp] theorem State.withdrawWaiting_rxQueue (s : State) (h : Handle) :
    (s.withdrawWaiting h).rxQueue = s.rxQueue := rfl
@[simp] theorem State.withdrawWaiting_extTable (s : State) (h : Handle) :
    (s.withdrawWaiting h).extTable = s.extTable := rfl
@[simp] theorem State.withdrawWaiting_badFrames (s : State) (h : Handle) :
    (s.withdrawWaiting h).badFrames = s.badFrames := rfl
@[simp] theorem State.withdrawWaiting_txDrops (s : State) (h : Handle) :
    (s.withdrawWaiting h).txDrops = s.txDrops := rfl
@[simp] theorem State.withdrawWaiting_reportSlot (s : State) (h : Handle) :
    (s.withdrawWaiting h).reportSlot = s.reportSlot := rfl
@[simp] theorem State.withdrawWaiting_slots (s : State) (h : Handle) :
    (s.withdrawWaiting h).slots = s.slots := rfl
@[simp] theorem State.withdrawWaiting_gateOut (s : State) (h : Handle) :
    (s.withdrawWaiting h).gateOut = s.gateOut := rfl
@[simp] theorem State.withdrawWaiting_quenchSensed (s : State) (h : Handle) :
    (s.withdrawWaiting h).quenchSensed = s.quenchSensed := rfl
@[simp] theorem State.withdrawWaiting_startUpDrive (s : State) (h : Handle) :
    (s.withdrawWaiting h).startUpDrive = s.startUpDrive := rfl
@[simp] theorem State.withdrawWaiting_restartDrive (s : State) (h : Handle) :
    (s.withdrawWaiting h).restartDrive = s.restartDrive := rfl
@[simp] theorem State.withdrawWaiting_breaksOut (s : State) (h : Handle) :
    (s.withdrawWaiting h).breaksOut = s.breaksOut := rfl
@[simp] theorem State.withdrawWaiting_fault (s : State) (h : Handle) :
    (s.withdrawWaiting h).fault = s.fault := rfl
@[simp] theorem State.withdrawWaiting_restart (s : State) (h : Handle) :
    (s.withdrawWaiting h).restart = s.restart := rfl
@[simp] theorem State.withdrawWaiting_freeCount (s : State) (h : Handle) :
    (s.withdrawWaiting h).freeCount = s.freeCount := rfl
@[simp] theorem State.withdrawWaiting_pending (s : State) (h : Handle) :
    (s.withdrawWaiting h).pending = s.pending := rfl

@[simp] theorem State.countDrop_nodeState (s : State) :
    (s.countDrop).nodeState = s.nodeState := rfl
@[simp] theorem State.countDrop_loader (s : State) :
    (s.countDrop).loader = s.loader := rfl
@[simp] theorem State.countDrop_address (s : State) :
    (s.countDrop).address = s.address := rfl
@[simp] theorem State.countDrop_spi (s : State) :
    (s.countDrop).spi = s.spi := rfl
@[simp] theorem State.countDrop_config (s : State) :
    (s.countDrop).config = s.config := rfl
@[simp] theorem State.countDrop_controls (s : State) :
    (s.countDrop).controls = s.controls := rfl
@[simp] theorem State.countDrop_elems (s : State) :
    (s.countDrop).elems = s.elems := rfl
@[simp] theorem State.countDrop_moveQueue (s : State) :
    (s.countDrop).moveQueue = s.moveQueue := rfl
@[simp] theorem State.countDrop_services (s : State) :
    (s.countDrop).services = s.services := rfl
@[simp] theorem State.countDrop_channels (s : State) :
    (s.countDrop).channels = s.channels := rfl
@[simp] theorem State.countDrop_orderHead (s : State) :
    (s.countDrop).orderHead = s.orderHead := rfl
@[simp] theorem State.countDrop_laneHold (s : State) :
    (s.countDrop).laneHold = s.laneHold := rfl
@[simp] theorem State.countDrop_coilOk (s : State) :
    (s.countDrop).coilOk = s.coilOk := rfl
@[simp] theorem State.countDrop_scanClock (s : State) :
    (s.countDrop).scanClock = s.scanClock := rfl
@[simp] theorem State.countDrop_scanReads (s : State) :
    (s.countDrop).scanReads = s.scanReads := rfl
@[simp] theorem State.countDrop_lineState (s : State) :
    (s.countDrop).lineState = s.lineState := rfl
@[simp] theorem State.countDrop_txQueue (s : State) :
    (s.countDrop).txQueue = s.txQueue := rfl
@[simp] theorem State.countDrop_txPhase (s : State) :
    (s.countDrop).txPhase = s.txPhase := rfl
@[simp] theorem State.countDrop_rxQueue (s : State) :
    (s.countDrop).rxQueue = s.rxQueue := rfl
@[simp] theorem State.countDrop_extTable (s : State) :
    (s.countDrop).extTable = s.extTable := rfl
@[simp] theorem State.countDrop_badFrames (s : State) :
    (s.countDrop).badFrames = s.badFrames := rfl
@[simp] theorem State.countDrop_reportSlot (s : State) :
    (s.countDrop).reportSlot = s.reportSlot := rfl
@[simp] theorem State.countDrop_slots (s : State) :
    (s.countDrop).slots = s.slots := rfl
@[simp] theorem State.countDrop_gateOut (s : State) :
    (s.countDrop).gateOut = s.gateOut := rfl
@[simp] theorem State.countDrop_quenchSensed (s : State) :
    (s.countDrop).quenchSensed = s.quenchSensed := rfl
@[simp] theorem State.countDrop_startUpDrive (s : State) :
    (s.countDrop).startUpDrive = s.startUpDrive := rfl
@[simp] theorem State.countDrop_restartDrive (s : State) :
    (s.countDrop).restartDrive = s.restartDrive := rfl
@[simp] theorem State.countDrop_breaksOut (s : State) :
    (s.countDrop).breaksOut = s.breaksOut := rfl
@[simp] theorem State.countDrop_fault (s : State) :
    (s.countDrop).fault = s.fault := rfl
@[simp] theorem State.countDrop_restart (s : State) :
    (s.countDrop).restart = s.restart := rfl
@[simp] theorem State.countDrop_freeCount (s : State) :
    (s.countDrop).freeCount = s.freeCount := rfl
@[simp] theorem State.countDrop_pending (s : State) :
    (s.countDrop).pending = s.pending := rfl

@[simp] theorem State.countBad_nodeState (s : State) :
    (s.countBad).nodeState = s.nodeState := rfl
@[simp] theorem State.countBad_loader (s : State) :
    (s.countBad).loader = s.loader := rfl
@[simp] theorem State.countBad_address (s : State) :
    (s.countBad).address = s.address := rfl
@[simp] theorem State.countBad_spi (s : State) :
    (s.countBad).spi = s.spi := rfl
@[simp] theorem State.countBad_config (s : State) :
    (s.countBad).config = s.config := rfl
@[simp] theorem State.countBad_controls (s : State) :
    (s.countBad).controls = s.controls := rfl
@[simp] theorem State.countBad_elems (s : State) :
    (s.countBad).elems = s.elems := rfl
@[simp] theorem State.countBad_moveQueue (s : State) :
    (s.countBad).moveQueue = s.moveQueue := rfl
@[simp] theorem State.countBad_services (s : State) :
    (s.countBad).services = s.services := rfl
@[simp] theorem State.countBad_channels (s : State) :
    (s.countBad).channels = s.channels := rfl
@[simp] theorem State.countBad_orderHead (s : State) :
    (s.countBad).orderHead = s.orderHead := rfl
@[simp] theorem State.countBad_laneHold (s : State) :
    (s.countBad).laneHold = s.laneHold := rfl
@[simp] theorem State.countBad_coilOk (s : State) :
    (s.countBad).coilOk = s.coilOk := rfl
@[simp] theorem State.countBad_scanClock (s : State) :
    (s.countBad).scanClock = s.scanClock := rfl
@[simp] theorem State.countBad_scanReads (s : State) :
    (s.countBad).scanReads = s.scanReads := rfl
@[simp] theorem State.countBad_lineState (s : State) :
    (s.countBad).lineState = s.lineState := rfl
@[simp] theorem State.countBad_txQueue (s : State) :
    (s.countBad).txQueue = s.txQueue := rfl
@[simp] theorem State.countBad_txPhase (s : State) :
    (s.countBad).txPhase = s.txPhase := rfl
@[simp] theorem State.countBad_rxQueue (s : State) :
    (s.countBad).rxQueue = s.rxQueue := rfl
@[simp] theorem State.countBad_extTable (s : State) :
    (s.countBad).extTable = s.extTable := rfl
@[simp] theorem State.countBad_txDrops (s : State) :
    (s.countBad).txDrops = s.txDrops := rfl
@[simp] theorem State.countBad_reportSlot (s : State) :
    (s.countBad).reportSlot = s.reportSlot := rfl
@[simp] theorem State.countBad_slots (s : State) :
    (s.countBad).slots = s.slots := rfl
@[simp] theorem State.countBad_gateOut (s : State) :
    (s.countBad).gateOut = s.gateOut := rfl
@[simp] theorem State.countBad_quenchSensed (s : State) :
    (s.countBad).quenchSensed = s.quenchSensed := rfl
@[simp] theorem State.countBad_startUpDrive (s : State) :
    (s.countBad).startUpDrive = s.startUpDrive := rfl
@[simp] theorem State.countBad_restartDrive (s : State) :
    (s.countBad).restartDrive = s.restartDrive := rfl
@[simp] theorem State.countBad_breaksOut (s : State) :
    (s.countBad).breaksOut = s.breaksOut := rfl
@[simp] theorem State.countBad_fault (s : State) :
    (s.countBad).fault = s.fault := rfl
@[simp] theorem State.countBad_restart (s : State) :
    (s.countBad).restart = s.restart := rfl
@[simp] theorem State.countBad_freeCount (s : State) :
    (s.countBad).freeCount = s.freeCount := rfl
@[simp] theorem State.countBad_pending (s : State) :
    (s.countBad).pending = s.pending := rfl

@[simp] theorem State.popFrame_nodeState (s : State) :
    (s.popFrame).nodeState = s.nodeState := rfl
@[simp] theorem State.popFrame_loader (s : State) :
    (s.popFrame).loader = s.loader := rfl
@[simp] theorem State.popFrame_address (s : State) :
    (s.popFrame).address = s.address := rfl
@[simp] theorem State.popFrame_spi (s : State) :
    (s.popFrame).spi = s.spi := rfl
@[simp] theorem State.popFrame_config (s : State) :
    (s.popFrame).config = s.config := rfl
@[simp] theorem State.popFrame_controls (s : State) :
    (s.popFrame).controls = s.controls := rfl
@[simp] theorem State.popFrame_elems (s : State) :
    (s.popFrame).elems = s.elems := rfl
@[simp] theorem State.popFrame_moveQueue (s : State) :
    (s.popFrame).moveQueue = s.moveQueue := rfl
@[simp] theorem State.popFrame_services (s : State) :
    (s.popFrame).services = s.services := rfl
@[simp] theorem State.popFrame_channels (s : State) :
    (s.popFrame).channels = s.channels := rfl
@[simp] theorem State.popFrame_orderHead (s : State) :
    (s.popFrame).orderHead = s.orderHead := rfl
@[simp] theorem State.popFrame_laneHold (s : State) :
    (s.popFrame).laneHold = s.laneHold := rfl
@[simp] theorem State.popFrame_coilOk (s : State) :
    (s.popFrame).coilOk = s.coilOk := rfl
@[simp] theorem State.popFrame_scanClock (s : State) :
    (s.popFrame).scanClock = s.scanClock := rfl
@[simp] theorem State.popFrame_scanReads (s : State) :
    (s.popFrame).scanReads = s.scanReads := rfl
@[simp] theorem State.popFrame_lineState (s : State) :
    (s.popFrame).lineState = s.lineState := rfl
@[simp] theorem State.popFrame_txQueue (s : State) :
    (s.popFrame).txQueue = s.txQueue := rfl
@[simp] theorem State.popFrame_txPhase (s : State) :
    (s.popFrame).txPhase = s.txPhase := rfl
@[simp] theorem State.popFrame_extTable (s : State) :
    (s.popFrame).extTable = s.extTable := rfl
@[simp] theorem State.popFrame_badFrames (s : State) :
    (s.popFrame).badFrames = s.badFrames := rfl
@[simp] theorem State.popFrame_txDrops (s : State) :
    (s.popFrame).txDrops = s.txDrops := rfl
@[simp] theorem State.popFrame_reportSlot (s : State) :
    (s.popFrame).reportSlot = s.reportSlot := rfl
@[simp] theorem State.popFrame_slots (s : State) :
    (s.popFrame).slots = s.slots := rfl
@[simp] theorem State.popFrame_gateOut (s : State) :
    (s.popFrame).gateOut = s.gateOut := rfl
@[simp] theorem State.popFrame_quenchSensed (s : State) :
    (s.popFrame).quenchSensed = s.quenchSensed := rfl
@[simp] theorem State.popFrame_startUpDrive (s : State) :
    (s.popFrame).startUpDrive = s.startUpDrive := rfl
@[simp] theorem State.popFrame_restartDrive (s : State) :
    (s.popFrame).restartDrive = s.restartDrive := rfl
@[simp] theorem State.popFrame_breaksOut (s : State) :
    (s.popFrame).breaksOut = s.breaksOut := rfl
@[simp] theorem State.popFrame_fault (s : State) :
    (s.popFrame).fault = s.fault := rfl
@[simp] theorem State.popFrame_restart (s : State) :
    (s.popFrame).restart = s.restart := rfl
@[simp] theorem State.popFrame_freeCount (s : State) :
    (s.popFrame).freeCount = s.freeCount := rfl
@[simp] theorem State.popFrame_pending (s : State) :
    (s.popFrame).pending = s.pending := rfl

/-! ### Reading after writing -/

@[simp] theorem State.elem_setElem_self (s : State) (e : ElemNo) (x : Element) :
    (s.setElem e x).elem e = some x := by
  simp [State.elem, State.setElem]

theorem State.elem_setElem_ne (s : State) {e e' : ElemNo} (x : Element) (h : e' ≠ e) :
    (s.setElem e x).elem e' = s.elem e' := by
  have : e.val ≠ e'.val := fun hh => h (Fin.ext hh.symm)
  simp [State.elem, State.setElem, this]

theorem State.elem_setElem (s : State) (e e' : ElemNo) (x : Element) :
    (s.setElem e x).elem e' = if e' = e then some x else s.elem e' := by
  split
  · subst e'; exact s.elem_setElem_self e x
  · exact s.elem_setElem_ne x ‹_›

@[simp] theorem State.slot_setSlot_self (s : State) (g : Gate) (sl : Slot) :
    (s.setSlot g sl).slot g = sl := by
  simp [State.slot, State.setSlot]

theorem State.slot_setSlot_ne (s : State) {g g' : Gate} (sl : Slot) (h : g' ≠ g) :
    (s.setSlot g sl).slot g' = s.slot g' := by
  have : g.val ≠ g'.val := fun hh => h (Fin.ext hh.symm)
  simp [State.slot, State.setSlot, this]

theorem State.slot_setSlot (s : State) (g g' : Gate) (sl : Slot) :
    (s.setSlot g sl).slot g' = if g' = g then sl else s.slot g' := by
  split
  · subst g'; exact s.slot_setSlot_self g sl
  · exact s.slot_setSlot_ne sl ‹_›

@[simp] theorem State.gate_setGate_self (s : State) (g : Gate) (b : Bool) :
    (s.setGate g b).gate g = b := by
  simp [State.gate, State.setGate]

theorem State.gate_setGate_ne (s : State) {g g' : Gate} (b : Bool) (h : g' ≠ g) :
    (s.setGate g b).gate g' = s.gate g' := by
  have : g.val ≠ g'.val := fun hh => h (Fin.ext hh.symm)
  simp [State.gate, State.setGate, this]

theorem State.gate_setGate (s : State) (g g' : Gate) (b : Bool) :
    (s.setGate g b).gate g' = if g' = g then b else s.gate g' := by
  split
  · subst g'; exact s.gate_setGate_self g b
  · exact s.gate_setGate_ne b ‹_›

@[simp] theorem State.channel_setChannel_self (s : State) (c : ChannelNo) (ch : Channel) :
    (s.setChannel c ch).channel c = ch := by
  simp [State.channel, State.setChannel]

theorem State.channel_setChannel_ne (s : State) {c c' : ChannelNo} (ch : Channel) (h : c' ≠ c) :
    (s.setChannel c ch).channel c' = s.channel c' := by
  have : c.val ≠ c'.val := fun hh => h (Fin.ext hh.symm)
  simp [State.channel, State.setChannel, this]

theorem State.channel_setChannel (s : State) (c c' : ChannelNo) (ch : Channel) :
    (s.setChannel c ch).channel c' = if c' = c then ch else s.channel c' := by
  split
  · subst c'; exact s.channel_setChannel_self c ch
  · exact s.channel_setChannel_ne ch ‹_›

/-! ### Reads look at one field -/

theorem State.elem_congr {s t : State} (h : s.elems = t.elems) (e : ElemNo) :
    s.elem e = t.elem e := by simp [State.elem, h]

theorem State.slot_congr {s t : State} (h : s.slots = t.slots) (g : Gate) :
    s.slot g = t.slot g := by simp [State.slot, h]

theorem State.gate_congr {s t : State} (h : s.gateOut = t.gateOut) (g : Gate) :
    s.gate g = t.gate g := by simp [State.gate, h]

theorem State.channel_congr {s t : State} (h : s.channels = t.channels) (c : ChannelNo) :
    s.channel c = t.channel c := by simp [State.channel, h]

@[simp] theorem State.elem_setSlot (s : State) (g : Gate) (sl : Slot) (e : ElemNo) :
    (s.setSlot g sl).elem e = s.elem e := rfl

@[simp] theorem State.elem_setGate (s : State) (g : Gate) (b : Bool) (e : ElemNo) :
    (s.setGate g b).elem e = s.elem e := rfl

@[simp] theorem State.elem_setChannel (s : State) (c : ChannelNo) (ch : Channel) (e : ElemNo) :
    (s.setChannel c ch).elem e = s.elem e := rfl

@[simp] theorem State.slot_setElem (s : State) (e : ElemNo) (x : Element) (g : Gate) :
    (s.setElem e x).slot g = s.slot g := rfl

@[simp] theorem State.slot_setGate (s : State) (g g' : Gate) (b : Bool) :
    (s.setGate g b).slot g' = s.slot g' := rfl

@[simp] theorem State.gate_setSlot (s : State) (g g' : Gate) (sl : Slot) :
    (s.setSlot g sl).gate g' = s.gate g' := rfl

@[simp] theorem State.gate_setElem (s : State) (e : ElemNo) (x : Element) (g : Gate) :
    (s.setElem e x).gate g = s.gate g := rfl

@[simp] theorem State.channel_setElem (s : State) (e : ElemNo) (x : Element) (c : ChannelNo) :
    (s.setElem e x).channel c = s.channel c := rfl

/-! ### The passing of time, record by record -/

@[simp] theorem State.elem_elapse (s : State) (r : Nat) (e : ElemNo) :
    (s.elapse r).elem e = (s.elem e).map (Element.elapse r) := by
  simp [State.elem, State.elapse]

@[simp] theorem State.slot_elapse (s : State) (r : Nat) (g : Gate) :
    (s.elapse r).slot g = (s.slot g).elapse r := by
  simp [State.slot, State.elapse]

@[simp] theorem State.gate_elapse (s : State) (r : Nat) (g : Gate) :
    (s.elapse r).gate g = s.gate g := rfl

@[simp] theorem State.channel_elapse (s : State) (r : Nat) (c : ChannelNo) :
    (s.elapse r).channel c = (s.channel c).elapse r := by
  simp [State.channel, State.elapse]

@[simp] theorem Element.elapse_zero (x : Element) : x.elapse 0 = x := by
  rcases x with ⟨⟩
  simp only [Element.elapse, Nat.sub_zero, Option.map_id']

@[simp] theorem Channel.elapse_zero (c : Channel) : c.elapse 0 = c := by
  cases c <;> rfl

@[simp] theorem Slot.elapse_zero (sl : Slot) : sl.elapse 0 = sl := by
  simp only [Slot.elapse, Nat.sub_zero, Option.map_id']

/-- Where no time passes, nothing changes. -/
@[simp] theorem State.elapse_zero (s : State) : s.elapse 0 = s := by
  apply State.ext <;> try rfl
  · simp only [State.elapse]
    ext i hi x
    cases h : s.elems[i] <;> simp [h]
  · simp [State.elapse]
  · simp only [State.elapse]
    ext i hi
    simp
  · simp [State.elapse]
  · simp only [State.elapse]
    ext i hi
    simp

/-! ### Changing every element -/

theorem State.elem_modElem (s : State) (e e' : ElemNo) (f : Element → Element) :
    (s.modElem e f).elem e' = if e' = e then (s.elem e').map f else s.elem e' := by
  unfold State.modElem
  cases h : s.elem e with
  | none =>
    simp only
    split
    · subst e'; simp [h]
    · rfl
  | some x =>
    simp only [State.elem_setElem]
    split
    · subst e'; simp [h]
    · rfl

/-- A change of one element touches the element table only. -/
theorem State.modElem_touches (s : State) (e : ElemNo) (f : Element → Element) :
    ∃ v, s.modElem e f = { s with elems := v } := by
  unfold State.modElem
  split
  · exact ⟨_, rfl⟩
  · exact ⟨_, rfl⟩

/-- A change of elements in turn touches the element table only. -/
theorem State.forElems_modElem_touches (s : State) (es : List ElemNo) (f : Element → Element) :
    ∃ v, s.forElems es (fun e s => s.modElem e f) = { s with elems := v } := by
  unfold State.forElems
  induction es generalizing s with
  | nil => exact ⟨s.elems, rfl⟩
  | cons e es ih =>
    obtain ⟨v, hv⟩ := s.modElem_touches e f
    obtain ⟨w, hw⟩ := ih (s.modElem e f)
    refine ⟨w, ?_⟩
    rw [List.foldl_cons, hw, hv]

theorem State.elem_forElems_modElem (s : State) (es : List ElemNo) (hes : es.Nodup)
    (f : Element → Element) (e : ElemNo) :
    (s.forElems es (fun e s => s.modElem e f)).elem e =
      if e ∈ es then (s.elem e).map f else s.elem e := by
  unfold State.forElems
  induction es generalizing s with
  | nil => simp
  | cons a es ih =>
    rw [List.foldl_cons, ih _ (List.nodup_cons.mp hes).2, State.elem_modElem]
    have ha := (List.nodup_cons.mp hes).1
    by_cases h : e = a
    · subst e; simp [ha]
    · simp [h]

theorem allElems_nodup : allElems.Nodup := by decide

theorem mem_allElems (e : ElemNo) : e ∈ allElems := by revert e; decide

theorem mem_allGates (g : Gate) : g ∈ allGates := by revert g; decide

theorem mem_allChannels (c : ChannelNo) : c ∈ allChannels := by revert c; decide

/-- One change applied to every element in use (R6, R108, R156). -/
theorem State.elem_forAll (s : State) (f : Element → Element) (e : ElemNo) :
    (s.forElems allElems (fun e s => s.modElem e f)).elem e = (s.elem e).map f := by
  rw [State.elem_forElems_modElem s allElems allElems_nodup, if_pos (mem_allElems e)]

end Sys2Proof.Machine
end

