-- ==== Sys2Proof/Laws/Ops.lean ====
section
/-!
SUPPORT. What the shared operations can do, said once for each. `TxTouched s t`, `ArbTouched s t` and
`SlotTouched s t` say that `t` is `s` but for the fields of the transmit side, of the arbiter and its
elements, and of the anchor unit with the transmit side. Later proofs cite these and unfold no operation.
-/

namespace Sys2Proof.Machine

/-! ### The transmit side -/

/-- `t` is `s` but for the transmit queue, what counts its losses, and what waits on its frames. -/
def TxTouched (s t : State) : Prop :=
  ∃ q d rs fl b r, t = { s with
    txQueue := q, txDrops := d, reportSlot := rs, fault := fl, breaksOut := b, restart := r }

theorem TxTouched.refl (s : State) : TxTouched s s :=
  ⟨s.txQueue, s.txDrops, s.reportSlot, s.fault, s.breaksOut, s.restart, rfl⟩

theorem TxTouched.trans {s t u : State} (h : TxTouched s t) (k : TxTouched t u) : TxTouched s u := by
  obtain ⟨q, d, rs, fl, b, r, rfl⟩ := h
  obtain ⟨q', d', rs', fl', b', r', rfl⟩ := k
  exact ⟨q', d', rs', fl', b', r', rfl⟩

namespace TxTouched
variable {s t : State}
theorem nodeState (h : TxTouched s t) : t.nodeState = s.nodeState := by obtain ⟨_, _, _, _, _, _, rfl⟩ := h; rfl
theorem loader (h : TxTouched s t) : t.loader = s.loader := by obtain ⟨_, _, _, _, _, _, rfl⟩ := h; rfl
theorem address (h : TxTouched s t) : t.address = s.address := by obtain ⟨_, _, _, _, _, _, rfl⟩ := h; rfl
theorem spi (h : TxTouched s t) : t.spi = s.spi := by obtain ⟨_, _, _, _, _, _, rfl⟩ := h; rfl
theorem config (h : TxTouched s t) : t.config = s.config := by obtain ⟨_, _, _, _, _, _, rfl⟩ := h; rfl
theorem elems (h : TxTouched s t) : t.elems = s.elems := by obtain ⟨_, _, _, _, _, _, rfl⟩ := h; rfl
theorem controls (h : TxTouched s t) : t.controls = s.controls := by obtain ⟨_, _, _, _, _, _, rfl⟩ := h; rfl
theorem moveQueue (h : TxTouched s t) : t.moveQueue = s.moveQueue := by obtain ⟨_, _, _, _, _, _, rfl⟩ := h; rfl
theorem services (h : TxTouched s t) : t.services = s.services := by obtain ⟨_, _, _, _, _, _, rfl⟩ := h; rfl
theorem channels (h : TxTouched s t) : t.channels = s.channels := by obtain ⟨_, _, _, _, _, _, rfl⟩ := h; rfl
theorem orderHead (h : TxTouched s t) : t.orderHead = s.orderHead := by obtain ⟨_, _, _, _, _, _, rfl⟩ := h; rfl
theorem laneHold (h : TxTouched s t) : t.laneHold = s.laneHold := by obtain ⟨_, _, _, _, _, _, rfl⟩ := h; rfl
theorem coilOk (h : TxTouched s t) : t.coilOk = s.coilOk := by obtain ⟨_, _, _, _, _, _, rfl⟩ := h; rfl
theorem scanClock (h : TxTouched s t) : t.scanClock = s.scanClock := by obtain ⟨_, _, _, _, _, _, rfl⟩ := h; rfl
theorem scanReads (h : TxTouched s t) : t.scanReads = s.scanReads := by obtain ⟨_, _, _, _, _, _, rfl⟩ := h; rfl
theorem lineState (h : TxTouched s t) : t.lineState = s.lineState := by obtain ⟨_, _, _, _, _, _, rfl⟩ := h; rfl
theorem txPhase (h : TxTouched s t) : t.txPhase = s.txPhase := by obtain ⟨_, _, _, _, _, _, rfl⟩ := h; rfl
theorem rxQueue (h : TxTouched s t) : t.rxQueue = s.rxQueue := by obtain ⟨_, _, _, _, _, _, rfl⟩ := h; rfl
theorem extTable (h : TxTouched s t) : t.extTable = s.extTable := by obtain ⟨_, _, _, _, _, _, rfl⟩ := h; rfl
theorem badFrames (h : TxTouched s t) : t.badFrames = s.badFrames := by obtain ⟨_, _, _, _, _, _, rfl⟩ := h; rfl
theorem slots (h : TxTouched s t) : t.slots = s.slots := by obtain ⟨_, _, _, _, _, _, rfl⟩ := h; rfl
theorem gateOut (h : TxTouched s t) : t.gateOut = s.gateOut := by obtain ⟨_, _, _, _, _, _, rfl⟩ := h; rfl
theorem quenchSensed (h : TxTouched s t) : t.quenchSensed = s.quenchSensed := by obtain ⟨_, _, _, _, _, _, rfl⟩ := h; rfl
theorem startUpDrive (h : TxTouched s t) : t.startUpDrive = s.startUpDrive := by obtain ⟨_, _, _, _, _, _, rfl⟩ := h; rfl
theorem restartDrive (h : TxTouched s t) : t.restartDrive = s.restartDrive := by obtain ⟨_, _, _, _, _, _, rfl⟩ := h; rfl
theorem freeCount (h : TxTouched s t) : t.freeCount = s.freeCount := by obtain ⟨_, _, _, _, _, _, rfl⟩ := h; rfl
theorem pending (h : TxTouched s t) : t.pending = s.pending := by obtain ⟨_, _, _, _, _, _, rfl⟩ := h; rfl
end TxTouched

/-- Teardown frames move from outside into the queue, and nothing else changes. -/
theorem State.fillTeardown_eq (s : State) :
    ∃ q r, s.fillTeardown = { s with txQueue := s.txQueue ++ q, restart := r } ∧
      (s.txQueue.length ≤ Config.txCapacity →
        (s.txQueue ++ q).length ≤ Config.txCapacity) ∧
      (r.isSome = s.restart.isSome) ∧
      ∀ x ∈ q, x.inTransmission = false ∧ x.item ≠ .report := by
  unfold State.fillTeardown
  cases hr : s.restart with
  | none =>
    refine ⟨[], none, ?_, by simp, rfl, by simp⟩
    cases s; simp_all
  | some r =>
    refine ⟨_, _, rfl, ?_, rfl, ?_⟩
    · intro h
      simp only [List.length_append, List.length_map, List.length_take]
      omega
    · intro x hx
      obtain ⟨f, _, rfl⟩ := List.mem_map.mp hx
      exact ⟨rfl, by simp [TxEntry.new]⟩

theorem State.fillTeardown_touches (s : State) : TxTouched s s.fillTeardown := by
  obtain ⟨q, r, h, -, -, -⟩ := s.fillTeardown_eq
  exact ⟨_, _, _, _, _, _, h⟩

/-- Where no teardown frame waits outside the queue, none joins it. -/
theorem State.fillTeardown_of_noneWaits {s : State} (h : ∀ r, s.restart = some r → r.waiting = []) :
    s.fillTeardown = s := by
  unfold State.fillTeardown
  cases hr : s.restart with
  | none => rfl
  | some r =>
    have hw := h r hr
    obtain ⟨w, o, d⟩ := r
    cases s
    simp_all

/-- With no restart nothing waits outside the queue. -/
theorem State.fillTeardown_of_none {s : State} (h : s.restart = none) : s.fillTeardown = s :=
  State.fillTeardown_of_noneWaits (by simp [h])

/-- Nothing waits outside the queue where there is room for a frame. -/
theorem State.roomFor.fill {s : State} {n : Nat} (h : s.roomFor n) : s.fillTeardown = s :=
  State.fillTeardown_of_noneWaits h.noneWaits

theorem State.roomFor.lt {s : State} {n : Nat} (h : s.roomFor (n + 1)) :
    s.txQueue.length < Config.txCapacity := by have := h.room; omega

/-- Room is left for the others after one frame has joined. -/
theorem State.roomFor.after {s t : State} {n : Nat} {x : TxEntry} (h : s.roomFor (n + 1))
    (hr : t.restart = s.restart) (hq : t.txQueue = s.txQueue ++ [x]) : t.roomFor n :=
  ⟨hr ▸ h.noneWaits, by have := h.room; rw [hq, List.length_append]; simp; omega⟩

theorem State.enqueueLast_touches (s : State) (i : TxItem) : TxTouched s (s.enqueueLast i) := by
  refine s.fillTeardown_touches.trans ?_
  unfold State.enqueueLast
  dsimp only
  split <;> exact ⟨_, _, _, _, _, _, rfl⟩

/-- A class 3 frame joins the back of a queue with room. -/
theorem State.enqueueLast_of_room {s : State} {n : Nat} (h : s.roomFor (n + 1)) (i : TxItem) :
    s.enqueueLast i = { s with txQueue := s.txQueue ++ [TxEntry.new i] } := by
  simp [State.enqueueLast, h.fill, h.lt]

/-- A class 3 frame that finds the queue full is dropped and counted (R88). -/
theorem State.enqueueLast_of_full {s : State} (hr : ∀ r, s.restart = some r → r.waiting = [])
    (hq : Config.txCapacity ≤ s.txQueue.length) (i : TxItem) : s.enqueueLast i = s.countDrop := by
  simp [State.enqueueLast, State.fillTeardown_of_noneWaits hr, Nat.not_lt.mpr hq]

theorem State.capture_touches (s : State) (k : FaultKind) (loc : Option ElemNo) (h : Option Handle) :
    TxTouched s (s.capture k loc h) := by
  unfold State.capture
  split
  · exact TxTouched.trans ⟨s.txQueue, s.txDrops, s.reportSlot, _, s.breaksOut, s.restart, rfl⟩
      (State.enqueueLast_touches _ _)
  · exact ⟨_, _, _, _, _, _, rfl⟩

/-- A capture into a record that holds a fault only counts (R155). -/
theorem State.capture_of_some {s : State} {k' : FaultKind} (hk : s.fault.kind = some k')
    (k : FaultKind) (loc : Option ElemNo) (h : Option Handle) :
    s.capture k loc h =
      { s with fault := { s.fault with later := min (s.fault.later + 1) Config.laterMax } } := by
  simp [State.capture, hk]

/-- The first fault is recorded with its place and handle (R155). -/
theorem State.capture_of_none {s : State} (hk : s.fault.kind = none)
    (k : FaultKind) (loc : Option ElemNo) (h : Option Handle) :
    s.capture k loc h =
      ({ s with fault := ⟨some k, loc, h, 0⟩ }).enqueueLast
        (.frame (.notice .faultCaptured none (BitVec.ofNat 5 k.code))) := by
  simp [State.capture, hk]

@[simp] theorem State.enqueueLast_fault (s : State) (i : TxItem) :
    (s.enqueueLast i).fault = s.fault := by
  obtain ⟨q, r, h, -, -, -⟩ := s.fillTeardown_eq
  unfold State.enqueueLast
  rw [h]
  dsimp only
  split <;> rfl

@[simp] theorem State.enqueueLast_reportSlot (s : State) (i : TxItem) :
    (s.enqueueLast i).reportSlot = s.reportSlot := by
  obtain ⟨q, r, h, -, -, -⟩ := s.fillTeardown_eq
  unfold State.enqueueLast
  rw [h]
  dsimp only
  split <;> rfl

@[simp] theorem State.enqueueLast_breaksOut (s : State) (i : TxItem) :
    (s.enqueueLast i).breaksOut = s.breaksOut := by
  obtain ⟨q, r, h, -, -, -⟩ := s.fillTeardown_eq
  unfold State.enqueueLast
  rw [h]
  dsimp only
  split <;> rfl

/-- Whether a restart is under way is not changed by a queuing. -/
theorem State.enqueueLast_restart_isSome (s : State) (i : TxItem) :
    (s.enqueueLast i).restart.isSome = s.restart.isSome := by
  obtain ⟨q, r, h, -, hr, -⟩ := s.fillTeardown_eq
  unfold State.enqueueLast
  rw [h]
  dsimp only
  split <;> exact hr

/-- The fault record after a capture (R155): filled if it was empty, and otherwise only its count of
later faults raised. -/
theorem State.capture_fault (s : State) (k : FaultKind) (loc : Option ElemNo) (h : Option Handle) :
    (s.capture k loc h).fault =
      match s.fault.kind with
      | none => ⟨some k, loc, h, 0⟩
      | some _ => { s.fault with later := min (s.fault.later + 1) Config.laterMax } := by
  unfold State.capture
  split <;> simp_all

@[simp] theorem State.capture_breaksOut (s : State) (k : FaultKind) (loc : Option ElemNo)
    (h : Option Handle) : (s.capture k loc h).breaksOut = s.breaksOut := by
  unfold State.capture
  split <;> simp

@[simp] theorem State.capture_reportSlot (s : State) (k : FaultKind) (loc : Option ElemNo)
    (h : Option Handle) : (s.capture k loc h).reportSlot = s.reportSlot := by
  unfold State.capture
  split <;> simp

theorem State.capture_restart_isSome (s : State) (k : FaultKind) (loc : Option ElemNo)
    (h : Option Handle) : (s.capture k loc h).restart.isSome = s.restart.isSome := by
  unfold State.capture
  split
  · exact State.enqueueLast_restart_isSome _ _
  · rfl

/-- Accounting for a frame of the node's own changes the break reason and the restart's wait only. -/
theorem State.accountOwn_eq (s : State) (a : Teardown → RestartSeq → RestartSeq) (f : Frame) :
    ∃ b r, s.accountOwn a f = { s with breaksOut := b, restart := r } ∧ r.isSome = s.restart.isSome ∧
      b ⊆ s.breaksOut := by
  refine ⟨_, _, rfl, ?_, ?_⟩
  · split <;> simp
  · split
    · split
      · exact List.erase_subset
      · exact List.Subset.refl _
    · exact List.Subset.refl _

theorem State.accountOwn_touches (s : State) (a : Teardown → RestartSeq → RestartSeq) (f : Frame) :
    TxTouched s (s.accountOwn a f) := ⟨_, _, _, _, _, _, rfl⟩

theorem State.countDrop_touches (s : State) : TxTouched s s.countDrop := ⟨_, _, _, _, _, _, rfl⟩

theorem State.settleLoss_touches (s : State) (i : TxItem) : TxTouched s (s.settleLoss i) := by
  unfold State.settleLoss
  split
  · exact ⟨_, _, _, _, _, _, rfl⟩
  · rename_i f
    have h := s.countDrop_touches.trans (State.accountOwn_touches s.countDrop RestartSeq.lose f)
    dsimp only
    split
    · exact h.trans (State.capture_touches _ _ _ _)
    · exact h

theorem State.settleLoss_restart_isSome (s : State) (i : TxItem) :
    (s.settleLoss i).restart.isSome = s.restart.isSome := by
  unfold State.settleLoss
  split
  · rfl
  · rename_i f
    obtain ⟨b, r, h, hr, -⟩ := s.countDrop.accountOwn_eq RestartSeq.lose f
    dsimp only
    split
    · rw [State.capture_restart_isSome, h]; exact hr
    · rw [h]; exact hr

/-- Queuing a frame touches the transmit side only. -/
theorem State.enqueue_touches (s : State) (f : Frame) : TxTouched s (s.enqueue f) := by
  refine s.fillTeardown_touches.trans ?_
  unfold State.enqueue
  dsimp only
  split
  · exact ⟨_, _, _, _, _, _, rfl⟩
  · split
    · exact TxTouched.trans ⟨_, _, _, _, _, _, rfl⟩ (State.settleLoss_touches _ _)
    · exact State.settleLoss_touches _ _

/-- A frame joins the back of a queue with room, and nothing else changes (R86). -/
theorem State.enqueue_of_room {s : State} {n : Nat} (h : s.roomFor (n + 1)) (f : Frame) :
    s.enqueue f = { s with txQueue := s.txQueue ++ [TxEntry.new (.frame f)] } := by
  simp [State.enqueue, h.fill, h.lt]

theorem State.enqueue_restart_isSome (s : State) (f : Frame) :
    (s.enqueue f).restart.isSome = s.restart.isSome := by
  obtain ⟨q, r, h, -, hr, -⟩ := s.fillTeardown_eq
  unfold State.enqueue
  rw [h]
  dsimp only
  split
  · exact hr
  · split
    · rw [State.settleLoss_restart_isSome]; exact hr
    · rw [State.settleLoss_restart_isSome]; exact hr

theorem State.hopstat_touches (s : State) (h : Handle) (m : HopMask) (st : Status) (r : Reason)
    (w : Bool) : TxTouched s (s.hopstat h m st r w) := State.enqueue_touches _ _

@[simp] theorem State.enqueue_nodeState (s : State) (f : Frame) : (s.enqueue f).nodeState = s.nodeState :=
  (s.enqueue_touches f).nodeState
@[simp] theorem State.enqueue_address (s : State) (f : Frame) : (s.enqueue f).address = s.address :=
  (s.enqueue_touches f).address
@[simp] theorem State.enqueue_config (s : State) (f : Frame) : (s.enqueue f).config = s.config :=
  (s.enqueue_touches f).config
@[simp] theorem State.enqueue_elems (s : State) (f : Frame) : (s.enqueue f).elems = s.elems :=
  (s.enqueue_touches f).elems
@[simp] theorem State.enqueue_moveQueue (s : State) (f : Frame) : (s.enqueue f).moveQueue = s.moveQueue :=
  (s.enqueue_touches f).moveQueue
@[simp] theorem State.enqueue_services (s : State) (f : Frame) : (s.enqueue f).services = s.services :=
  (s.enqueue_touches f).services
@[simp] theorem State.enqueue_channels (s : State) (f : Frame) : (s.enqueue f).channels = s.channels :=
  (s.enqueue_touches f).channels
@[simp] theorem State.enqueue_slots (s : State) (f : Frame) : (s.enqueue f).slots = s.slots :=
  (s.enqueue_touches f).slots
@[simp] theorem State.enqueue_gateOut (s : State) (f : Frame) : (s.enqueue f).gateOut = s.gateOut :=
  (s.enqueue_touches f).gateOut
@[simp] theorem State.enqueue_pending (s : State) (f : Frame) : (s.enqueue f).pending = s.pending :=
  (s.enqueue_touches f).pending

/-! ### The bounds of the transmit side (R86, R88, R155) -/

theorem State.fillTeardown_length {s : State} (h : s.txQueue.length ≤ Config.txCapacity) :
    s.fillTeardown.txQueue.length ≤ Config.txCapacity := by
  obtain ⟨q, r, e, hl, -, -⟩ := s.fillTeardown_eq
  rw [e]; exact hl h

theorem State.enqueueLast_length {s : State} (h : s.txQueue.length ≤ Config.txCapacity) (i : TxItem) :
    (s.enqueueLast i).txQueue.length ≤ Config.txCapacity := by
  have hf := State.fillTeardown_length h
  unfold State.enqueueLast
  dsimp only
  split
  · simp only [List.length_append, List.length_singleton]; omega
  · exact hf

theorem State.capture_length {s : State} (h : s.txQueue.length ≤ Config.txCapacity)
    (k : FaultKind) (loc : Option ElemNo) (hd : Option Handle) :
    (s.capture k loc hd).txQueue.length ≤ Config.txCapacity := by
  unfold State.capture
  split
  · exact State.enqueueLast_length (s := { s with fault := ⟨some k, loc, hd, 0⟩ }) h _
  · exact h

theorem State.settleLoss_length {s : State} (h : s.txQueue.length ≤ Config.txCapacity) (i : TxItem) :
    (s.settleLoss i).txQueue.length ≤ Config.txCapacity := by
  unfold State.settleLoss
  split
  · exact h
  · rename_i f
    obtain ⟨b, r, e, -, -⟩ := s.countDrop.accountOwn_eq RestartSeq.lose f
    have h' : (s.countDrop.accountOwn RestartSeq.lose f).txQueue.length ≤ Config.txCapacity := by rw [e]; exact h
    dsimp only
    split
    · exact State.capture_length h' _ _ _
    · exact h'

theorem lastIdx_lt {α : Type} (p : α → Bool) :
    ∀ (l : List α) (i : Nat), lastIdx p l = some i → i < l.length
  | [], _, h => by simp [lastIdx] at h
  | x :: xs, i, h => by
    unfold lastIdx at h
    split at h
    · rename_i j hj
      have := lastIdx_lt p xs j hj
      simp only [Option.some.injEq] at h
      simp only [List.length_cons]; omega
    · split at h
      · simp only [Option.some.injEq] at h; simp [← h]
      · simp at h

theorem victimIdx_lt {q : List TxEntry} {c i : Nat} (h : victimIdx q c = some i) : i < q.length := by
  obtain ⟨k, -, hk⟩ := List.exists_of_findSome?_eq_some h
  split at hk
  · exact lastIdx_lt _ _ _ hk
  · simp at hk

theorem State.enqueue_length {s : State} (h : s.txQueue.length ≤ Config.txCapacity) (f : Frame) :
    (s.enqueue f).txQueue.length ≤ Config.txCapacity := by
  have hf := State.fillTeardown_length h
  unfold State.enqueue
  dsimp only
  split
  · simp only [List.length_append, List.length_singleton]; omega
  · split
    · rename_i i hi
      have := victimIdx_lt hi
      refine State.settleLoss_length ?_ _
      simp only [List.length_append, List.length_singleton, List.length_eraseIdx, this, if_true]
      omega
    · exact State.settleLoss_length hf _

/-! ### The arbiter and the elements -/

/-- `t` is `s` but for the element records, the control inputs, the moves pending and in service, and the
channels. -/
def ArbTouched (s t : State) : Prop :=
  ∃ es ct mq sv ch, t = { s with
    elems := es, controls := ct, moveQueue := mq, services := sv, channels := ch }

theorem ArbTouched.refl (s : State) : ArbTouched s s :=
  ⟨s.elems, s.controls, s.moveQueue, s.services, s.channels, rfl⟩

theorem ArbTouched.trans {s t u : State} (h : ArbTouched s t) (k : ArbTouched t u) : ArbTouched s u := by
  obtain ⟨_, _, _, _, _, rfl⟩ := h
  obtain ⟨_, _, _, _, _, rfl⟩ := k
  exact ⟨_, _, _, _, _, rfl⟩

namespace ArbTouched
variable {s t : State}
theorem nodeState (h : ArbTouched s t) : t.nodeState = s.nodeState := by obtain ⟨_, _, _, _, _, rfl⟩ := h; rfl
theorem address (h : ArbTouched s t) : t.address = s.address := by obtain ⟨_, _, _, _, _, rfl⟩ := h; rfl
theorem config (h : ArbTouched s t) : t.config = s.config := by obtain ⟨_, _, _, _, _, rfl⟩ := h; rfl
theorem orderHead (h : ArbTouched s t) : t.orderHead = s.orderHead := by obtain ⟨_, _, _, _, _, rfl⟩ := h; rfl
theorem laneHold (h : ArbTouched s t) : t.laneHold = s.laneHold := by obtain ⟨_, _, _, _, _, rfl⟩ := h; rfl
theorem coilOk (h : ArbTouched s t) : t.coilOk = s.coilOk := by obtain ⟨_, _, _, _, _, rfl⟩ := h; rfl
theorem txQueue (h : ArbTouched s t) : t.txQueue = s.txQueue := by obtain ⟨_, _, _, _, _, rfl⟩ := h; rfl
theorem slots (h : ArbTouched s t) : t.slots = s.slots := by obtain ⟨_, _, _, _, _, rfl⟩ := h; rfl
theorem gateOut (h : ArbTouched s t) : t.gateOut = s.gateOut := by obtain ⟨_, _, _, _, _, rfl⟩ := h; rfl
theorem fault (h : ArbTouched s t) : t.fault = s.fault := by obtain ⟨_, _, _, _, _, rfl⟩ := h; rfl
theorem restart (h : ArbTouched s t) : t.restart = s.restart := by obtain ⟨_, _, _, _, _, rfl⟩ := h; rfl
theorem pending (h : ArbTouched s t) : t.pending = s.pending := by obtain ⟨_, _, _, _, _, rfl⟩ := h; rfl
end ArbTouched

theorem State.setElem_arb (s : State) (e : ElemNo) (x : Element) : ArbTouched s (s.setElem e x) :=
  ⟨_, _, _, _, _, rfl⟩

theorem State.modElem_arb (s : State) (e : ElemNo) (f : Element → Element) :
    ArbTouched s (s.modElem e f) := by
  unfold State.modElem
  split
  · exact s.setElem_arb _ _
  · exact ArbTouched.refl s

theorem State.withdraw_arb (s : State) (e : ElemNo) : ArbTouched s (s.withdraw e) := ⟨_, _, _, _, _, rfl⟩

theorem State.startMove_touches (s : State) (m : MoveEntry) (ch : Option ChannelNo) :
    ArbTouched s (s.startMove m ch) := by
  unfold State.startMove
  split
  · exact ArbTouched.refl s
  · dsimp only
    split <;> exact ⟨_, _, _, _, _, rfl⟩

/-- The start of a pending move (R12, R25): what it writes, where its element is in use. -/
theorem State.startMove_some {s : State} {m : MoveEntry} {x : Element} (hx : s.elem m.elem = some x)
    (c : ChannelNo) :
    s.startMove m (some c) =
      { s with
        elems := s.elems.set m.elem (some (x.startMove s.config m.target))
        moveQueue := s.moveQueue.filter (fun m' => m'.elem != m.elem)
        controls := if x.cls = .solidState then s.controls.set m.elem m.target else s.controls
        services := s.services ++ [⟨m.elem, m.target, m.lane, x.pulseCount m.target,
          moveDuration s.config x (x.pulseCount m.target), some c,
          moveDuration s.config x (x.pulseCount m.target)⟩]
        channels := s.channels.set c (.pulsing m.elem m.target m.lane (x.pulseCount m.target)
          (firstPhase (x.pulseCount m.target))
          (pulsingUnits s.config x.cls (x.pulseCount m.target))) } := by
  simp only [State.startMove, hx, State.setChannel, State.setElem, State.withdraw]

/-- The start of a move that needs no channel (R47). -/
theorem State.startMove_none {s : State} {m : MoveEntry} {x : Element} (hx : s.elem m.elem = some x) :
    s.startMove m none =
      { s with
        elems := s.elems.set m.elem (some (x.startMove s.config m.target))
        moveQueue := s.moveQueue.filter (fun m' => m'.elem != m.elem)
        controls := if x.cls = .solidState then s.controls.set m.elem m.target else s.controls
        services := s.services ++ [⟨m.elem, m.target, m.lane, x.pulseCount m.target,
          moveDuration s.config x (x.pulseCount m.target), none,
          moveDuration s.config x (x.pulseCount m.target)⟩] } := by
  simp only [State.startMove, hx, State.setElem, State.withdraw]

theorem State.grantOne_touches (s : State) : ArbTouched s s.grantOne := by
  unfold State.grantOne
  split
  · split
    · exact s.startMove_touches _ _
    · exact ArbTouched.refl s
  · exact ArbTouched.refl s

theorem State.grants_touches (s : State) : ArbTouched s s.grants :=
  ((s.grantOne_touches.trans (State.grantOne_touches _)).trans (State.grantOne_touches _)).trans
    (State.grantOne_touches _)

/-- No grant is made while the node is not RUNNING or COILOK is low (R41, R49, R51). -/
theorem State.grants_of_not {s : State} (h : ¬(s.nodeState = .running ∧ s.coilOk = true)) :
    s.grants = s := by
  have h1 : s.grantOne = s := if_neg h
  simp [State.grants, h1]

/-- A grant takes the arbiter's choice on an IDLE channel (R41, R42). -/
theorem State.grantOne_of {s : State} {c : ChannelNo} {m : MoveEntry} (hn : s.nodeState = .running)
    (hk : s.coilOk = true) (hc : s.idleChannel = some c) (hm : s.grantChoice = some m) :
    s.grantOne = s.startMove m (some c) := by
  simp [State.grantOne, hn, hk, hc, hm]

/-- The arbiter's choice is a pending move that needs a channel, in a lane that is not held (R42). -/
theorem State.grantChoice_mem {s : State} {m : MoveEntry} (h : s.grantChoice = some m) :
    m ∈ s.moveQueue ∧ m.needsChannel = true ∧ laneHeld s.laneHold m.lane = false := by
  obtain ⟨k, -, hk⟩ := List.exists_of_findSome?_eq_some h
  split at hk
  · simp at hk
  · rename_i hl
    have hp := List.find?_some hk
    simp only [Bool.and_eq_true, beq_iff_eq] at hp
    refine ⟨List.mem_of_find?_eq_some hk, hp.2, ?_⟩
    rw [hp.1]; simpa using hl

theorem State.queueMove_touches (s : State) (e : ElemNo) (t : Throw) (k : Lane) :
    ArbTouched s (s.queueMove e t k) := by
  unfold State.queueMove
  split
  · exact ArbTouched.refl s
  · have h : ∀ m, ArbTouched s { s with moveQueue := s.moveQueue ++ [m] } := fun m =>
      ⟨_, _, _, _, _, rfl⟩
    dsimp only
    split
    · exact (h _).trans (State.grants_touches _)
    · split
      · exact (h _).trans (State.startMove_touches _ _ _)
      · exact h _

/-- In a node that is not RUNNING a queued move waits (R49). -/
theorem State.queueMove_of_not_running {s : State} {e : ElemNo} {x : Element} (hx : s.elem e = some x)
    (h : s.nodeState ≠ .running) (t : Throw) (k : Lane) :
    s.queueMove e t k =
      { s with moveQueue := s.moveQueue ++ [⟨e, t, k, needsChannel x.cls t⟩] } := by
  have h' : ¬(s.nodeState = .running ∧ s.coilOk = true) := fun a => h a.1
  simp only [State.queueMove, hx]
  split
  · exact State.grants_of_not h'
  · simp [h]

theorem foldl_touches {α : Type} (f : State → α → State) (h : ∀ s a, ArbTouched s (f s a)) :
    ∀ (l : List α) (s : State), ArbTouched s (l.foldl f s)
  | [], s => ArbTouched.refl s
  | a :: l, s => (h s a).trans (foldl_touches f h l (f s a))

theorem State.forElems_arb (s : State) (es : List ElemNo) (f : ElemNo → State → State)
    (h : ∀ e s, ArbTouched s (f e s)) : ArbTouched s (s.forElems es f) :=
  foldl_touches _ (fun s e => h e s) es s

theorem State.startUnheld_touches (s : State) : ArbTouched s s.startUnheld :=
  foldl_touches _ (fun s _ => s.startMove_touches _ _) _ s

@[simp] theorem Element.disown_faultLatch (x : Element) : x.disown.faultLatch = x.faultLatch := rfl
@[simp] theorem Element.disown_releaseTarget (x : Element) :
    x.disown.releaseTarget = x.releaseTarget := rfl
@[simp] theorem Element.toReturning_mismatchRun (t : Throw) (x : Element) :
    (x.toReturning t).mismatchRun = x.mismatchRun := rfl
@[simp] theorem Element.toReturning_retry (t : Throw) (x : Element) :
    (x.toReturning t).retry = false := rfl

/-- Release processing is its steps 2 to 5 on the record step 1 leaves (R16). -/
theorem State.release_of_elem {s : State} {e : ElemNo} {x : Element} (h : s.elem e = some x) :
    s.release e = s.releaseFromStep2 e x.disown := by
  simp [State.release, h]

theorem State.releaseFromStep2_touches (s : State) (e : ElemNo) (x : Element) :
    ArbTouched s (s.releaseFromStep2 e x) := by
  unfold State.releaseFromStep2
  split
  · exact s.setElem_arb _ _
  · split
    · exact (s.setElem_arb _ _).trans (State.queueMove_touches _ _ _ _)
    · exact s.setElem_arb _ _

theorem State.release_touches (s : State) (e : ElemNo) : ArbTouched s (s.release e) := by
  unfold State.release
  split
  · exact ArbTouched.refl s
  · exact s.releaseFromStep2_touches _ _

theorem State.releaseSeen_touches (s : State) (e : ElemNo) : ArbTouched s (s.releaseSeen e) := by
  unfold State.releaseSeen
  split
  · exact ArbTouched.refl s
  · split
    · exact s.setElem_arb _ _
    · exact s.setElem_arb _ _
    · exact s.release_touches _
    · exact s.release_touches _
    · exact s.release_touches _
    · exact s.release_touches _
    · exact s.release_touches _
    · exact ArbTouched.refl s
    · exact ArbTouched.refl s

/-! ### The anchor unit -/

/-- `t` is `s` but for the slots, the gate outputs and the transmit side. -/
def SlotTouched (s t : State) : Prop :=
  ∃ sl gt u, TxTouched { s with slots := sl, gateOut := gt } u ∧ t = u

theorem SlotTouched.refl (s : State) : SlotTouched s s :=
  ⟨s.slots, s.gateOut, s, TxTouched.refl s, rfl⟩

theorem SlotTouched.of_tx {s t : State} (h : TxTouched s t) : SlotTouched s t :=
  ⟨s.slots, s.gateOut, t, h, rfl⟩

theorem SlotTouched.trans {s t u : State} (h : SlotTouched s t) (k : SlotTouched t u) :
    SlotTouched s u := by
  obtain ⟨sl, gt, _, ⟨_, _, _, _, _, _, rfl⟩, rfl⟩ := h
  obtain ⟨sl', gt', _, ⟨_, _, _, _, _, _, rfl⟩, rfl⟩ := k
  exact ⟨sl', gt', _, ⟨_, _, _, _, _, _, rfl⟩, rfl⟩

namespace SlotTouched
variable {s t : State}
theorem nodeState (h : SlotTouched s t) : t.nodeState = s.nodeState := by
  obtain ⟨_, _, _, ⟨_, _, _, _, _, _, rfl⟩, rfl⟩ := h; rfl
theorem address (h : SlotTouched s t) : t.address = s.address := by
  obtain ⟨_, _, _, ⟨_, _, _, _, _, _, rfl⟩, rfl⟩ := h; rfl
theorem config (h : SlotTouched s t) : t.config = s.config := by
  obtain ⟨_, _, _, ⟨_, _, _, _, _, _, rfl⟩, rfl⟩ := h; rfl
theorem elems (h : SlotTouched s t) : t.elems = s.elems := by
  obtain ⟨_, _, _, ⟨_, _, _, _, _, _, rfl⟩, rfl⟩ := h; rfl
theorem moveQueue (h : SlotTouched s t) : t.moveQueue = s.moveQueue := by
  obtain ⟨_, _, _, ⟨_, _, _, _, _, _, rfl⟩, rfl⟩ := h; rfl
theorem services (h : SlotTouched s t) : t.services = s.services := by
  obtain ⟨_, _, _, ⟨_, _, _, _, _, _, rfl⟩, rfl⟩ := h; rfl
theorem channels (h : SlotTouched s t) : t.channels = s.channels := by
  obtain ⟨_, _, _, ⟨_, _, _, _, _, _, rfl⟩, rfl⟩ := h; rfl
theorem rxQueue (h : SlotTouched s t) : t.rxQueue = s.rxQueue := by
  obtain ⟨_, _, _, ⟨_, _, _, _, _, _, rfl⟩, rfl⟩ := h; rfl
theorem quenchSensed (h : SlotTouched s t) : t.quenchSensed = s.quenchSensed := by
  obtain ⟨_, _, _, ⟨_, _, _, _, _, _, rfl⟩, rfl⟩ := h; rfl
theorem pending (h : SlotTouched s t) : t.pending = s.pending := by
  obtain ⟨_, _, _, ⟨_, _, _, _, _, _, rfl⟩, rfl⟩ := h; rfl
end SlotTouched

theorem State.setSlot_touches (s : State) (g : Gate) (sl : Slot) : SlotTouched s (s.setSlot g sl) :=
  ⟨_, s.gateOut, _, TxTouched.refl _, rfl⟩

theorem State.setGate_touches (s : State) (g : Gate) (b : Bool) : SlotTouched s (s.setGate g b) :=
  ⟨s.slots, _, _, TxTouched.refl _, rfl⟩

theorem State.slotRelease_touches (s : State) (g : Gate) (r : Reason) :
    SlotTouched s (s.slotRelease g r) :=
  (s.setSlot_touches g _).trans (.of_tx (State.enqueue_touches _ _))

theorem State.endPath_touches (s : State) (g : Gate) (r : Reason) : SlotTouched s (s.endPath g r) := by
  unfold State.endPath
  dsimp only
  split
  · exact SlotTouched.refl s
  · exact SlotTouched.refl s
  · exact s.slotRelease_touches g r
  · exact s.slotRelease_touches g r
  · exact ((s.setSlot_touches g _).trans (State.setGate_touches _ g _)).trans
      (.of_tx (State.enqueue_touches _ _))
  · exact s.setSlot_touches g _
  · split
    · exact s.setSlot_touches g _
    · exact SlotTouched.refl s

theorem State.makeStep_touches (s : State) (g : Gate) (sc : Scan) (t : Throw) :
    SlotTouched s (s.makeStep g sc t) := by
  unfold State.makeStep
  dsimp only
  split
  · exact s.setSlot_touches g _
  · exact (s.setSlot_touches g _).trans (State.setGate_touches _ g _)

theorem State.triggerHot_touches (s : State) (g : Gate) (sc : Scan) :
    SlotTouched s (s.triggerHot g sc) := by
  unfold State.triggerHot
  dsimp only
  split
  · exact s.setSlot_touches g _
  · split
    · exact SlotTouched.refl s
    · split
      · exact (s.setSlot_touches g _).trans (.of_tx (State.enqueueLast_touches _ _))
      · exact s.makeStep_touches g _ _

theorem State.trigger_touches (s : State) (g : Gate) : SlotTouched s (s.trigger g) := by
  unfold State.trigger
  split
  · exact SlotTouched.refl s
  · split
    · exact SlotTouched.refl s
    · split
      · exact s.triggerHot_touches g _
      · exact s.setSlot_touches g _
      · exact s.setSlot_touches g _
      · exact s.setSlot_touches g _
      · exact SlotTouched.refl s
      · exact SlotTouched.refl s
      · exact SlotTouched.refl s

theorem State.takePending_touches (s : State) (g : Gate) : SlotTouched s (s.takePending g) := by
  unfold State.takePending
  split
  · split
    · exact (s.setSlot_touches g _).trans (State.trigger_touches _ g)
    · exact SlotTouched.refl s
  · exact SlotTouched.refl s

theorem State.openGate_touches (s : State) (g : Gate) : SlotTouched s (s.openGate g) := by
  have h := ((s.setSlot_touches g { s.slot g with
    state := .hot, timer := none, quenchTimer := none, purpose := none }).trans
      (State.setGate_touches _ g true)).trans
        (.of_tx (State.enqueue_touches _ (.hot ⟨s.address, g⟩)))
  unfold State.openGate
  dsimp only
  split
  · exact h.trans (State.takePending_touches _ g)
  · exact h

theorem State.testReady_touches (s : State) (g : Gate) : SlotTouched s (s.testReady g) := by
  unfold State.testReady
  dsimp only
  split
  · split
    · exact s.setSlot_touches g _
    · exact s.openGate_touches g
  · exact SlotTouched.refl s

/-! ### The start of a warm restart and the receive queue -/

/-- What the start of a warm restart writes (R158, R159). -/
theorem State.beginRestart_eq (s : State) :
    ∃ q r, s.beginRestart = { s with
      nodeState := .restarting, restartDrive := true, gateOut := Vector.replicate 8 false
      slots := s.slots.map Slot.stopTimers, txQueue := q, restart := some r } := by
  obtain ⟨q, r, h, -, hr, -⟩ := State.fillTeardown_eq
    { s with
      nodeState := .restarting
      restartDrive := true
      gateOut := Vector.replicate 8 false
      slots := s.slots.map Slot.stopTimers
      restart := some
        { waiting := s.restartBreaks ++ s.restartReleases
          outstanding := s.adopted
          withdrawn := false
          sent := s.sentUnseen } }
  obtain ⟨r', rfl⟩ := Option.isSome_iff_exists.mp hr
  exact ⟨_, r', h⟩

/-- A good frame joins the back of a receive queue with room, and nothing else changes (R81). -/
theorem State.receive_of_room {s : State} (h : s.rxQueue.length < Config.rxCapacity) (rx : RxFrame) :
    s.receive rx = { s with rxQueue := s.rxQueue ++ [rx] } := by
  simp [State.receive, h]

end Sys2Proof.Machine
end

