-- ==== Sys2Proof/WellFormed.lean ====
section
/-!
DEFINITION. Which commands are well-formed: those whose operands the wired equipment can present.
The types bound every number; the lengths of the three list operands are checked here.
-/

namespace Sys2Proof

/-- How many bytes the node takes from a memory whose bytes 0 and 1 are `b0` and `b1`: two when it
refuses the image at step 5, and otherwise as many as the length says (R166). -/
def imageBytesTaken (b0 b1 : Byte) : Nat :=
  if b0 = 0x5A ∧ 27 ≤ b1.toNat ∧ b1.toNat ≤ 117 then b1.toNat else 2

/-- The operand of IMAGE_READ_DONE is exactly the bytes the node took (R166). -/
def imageWellFormed : List Byte → Bool
  | b0 :: b1 :: rest => rest.length + 2 == imageBytesTaken b0 b1
  | _ => false

/-- A frame's length field has four bits (R76). -/
def RawFrame.wellFormed (f : RawFrame) : Bool :=
  f.payload.length ≤ 15

/-- The check of a command's operands. -/
def Instr.wellFormed : Instr → Bool
  | .imageReadDone image => imageWellFormed image
  | .senseGroupRead contacts => contacts.length == 8
  | .frameEnd (some f) _ => f.wellFormed
  | _ => true

end Sys2Proof
end

