-- ==== Sys2Proof/Tests/Slice0.lean ====
section
/-!
SUPPORT. Tests of single commands, with results taken from the worked cases of spec/ or counted by hand
from its tables, and for each statement with premises a state and operands that meet them together.
-/

namespace Sys2Proof.Machine

/-- The node with a frame of station `a` at the head of its receive queue. -/
def State.seeing (s : State) (a : Address) (f : Frame) : State := { s with rxQueue := [⟨a, f⟩] }

/-- A node that holds a fault already. -/
def State.faulted (s : State) : State := { s with fault := ⟨some .supplyLost, none, none, 14⟩ }

/-- A node in the middle of a warm restart with no teardown frame waiting. -/
def State.inRestart (s : State) : State :=
  { s with nodeState := .restarting, restartDrive := true, restart := some ⟨[], [.brk ⟨7, 1⟩], false, []⟩ }

namespace Tests

set_option maxRecDepth 20000
set_option Elab.async false

/-! ### States to test on -/

/-- The class figures of section 3.9, with Q = 20 units, a setup timeout of 20.0 ms and all gates enabled. -/
def figures : ImageConfig := ⟨true, 20, 2, 0xFF, 150, 40, 100, 30, 2, 2, 0⟩

/-- Node 20 in RUNNING, with no element in use, COILOK high and the line followed. -/
def node : State :=
  { State.reset with
    nodeState := .running, loader := .ended, address := 20, config := figures, coilOk := true
    scanClock := some 0, lineState := .following, quenchSensed := false, startUpDrive := false }

/-- A FREE element, commanded and sensed at throw 2. -/
def free (c : ElemClass) (cascaded : Bool) : Element where
  cls := c
  throws := 12
  cascaded := cascaded
  park := some 0
  baseWear := 131070
  state := .free
  commanded := some 2
  sensed := .throw 2
  half := if cascaded then .zero else .absent
  owner := none
  target := none
  stepTarget := false
  retry := false
  releaseOnCompletion := false
  mismatchRun := 0
  faultLatch := false
  wear := 131070
  wearWarning := false
  verifyDue := false
  hold := none

/-- The element of section 2.8: class L, cascaded, with 12 throws. -/
def e5 : Element := free .latching true

/-- The owner of a claim for hop 1 of path 12/3 in lane 2. -/
def owner (tentative : Bool) : Owner :=
  ⟨⟨12, 3⟩, 2, 2, tentative, if tentative then some 200 else none, 1, false⟩

/-- `x` in state `st`, owned for path 12/3. -/
def owned (x : Element) (st : ElemState) : Element :=
  { x with state := st, owner := some (owner (st == .claimed)) }

/-- The node with `x` as its element E5. -/
def withE5 (x : Element) : State := node.setElem 5 x

/-- What a command makes of a state, where it answers a next one. -/
def next (c : Instr) (s : State) : State :=
  match exec c s with
  | .next t => t
  | _ => s

/-- The handle of slot 3 of the node. -/
def own : Handle := ⟨20, 3⟩

/-- A slot with the path of section 9.9 shifted to node 20: three hops, the last at throw 0. -/
def slotIn (st : SlotState) : Slot :=
  { Slot.idle with
    state := st, hops := [⟨12, 1, 1⟩, ⟨20, 4, 1⟩, ⟨33, 7, 0⟩], ready := 7 }

/-- The scan record of section 9.9 right after the SCAN. -/
def scan : Scan := ⟨0x055, 0, 1, 1, 2, 2, false, 0, false⟩

/-- The node with `sl` as its slot 3 and its gate open where the slot is HOT. -/
def withSlot (sl : Slot) : State :=
  (node.setSlot 3 sl).setGate 3 (sl.state == .hot)

/-! ### Well-formedness -/

theorem test_wf_refuses_short_image : (Instr.imageReadDone [0x5A]).wellFormed = false := by decide

theorem test_wf_refuses_image_past_step_five :
    (Instr.imageReadDone [0xFF, 0xFF, 0xFF]).wellFormed = false := by decide

theorem test_wf_refuses_seven_contacts :
    (Instr.senseGroupRead (List.replicate 7 0)).wellFormed = false := by decide

theorem test_wf_refuses_sixteen_byte_payload :
    (Instr.frameEnd (some ⟨0, 0, 0, List.replicate 16 0, 0⟩) false).wellFormed = false := by decide

theorem test_wf_takes_blank_image : (Instr.imageReadDone [0xFF, 0xFF]).wellFormed = true := by decide

/-! ### Frames as bits, written out from R76 and R77 -/

/-- The CRC over the nine bytes 31H to 39H: the generator's published check value. -/
theorem test_crc_check_value :
    crcBits (bytesBits [0x31, 0x32, 0x33, 0x34, 0x35, 0x36, 0x37, 0x38, 0x39]) = 0x29B1 := by
  decide +kernel

/-- HOT 12/3: handle 001100 011. -/
theorem test_hot_word : Frame.ofRaw ⟨1, 12, 4, [0b00110001, 0b10000000], 0⟩ = some (.hot ⟨12, 3⟩) := by
  decide +kernel

/-- BREAK 7/1, mask of hops 1 and 2, DropOut: 000111 001, 00000110, 10011. -/
theorem test_break_word :
    Frame.ofRaw ⟨0, 41, 1, [0b00011100, 0b10000011, 0b01001100], 0⟩ = some (.brk ⟨7, 1⟩ 6 19) := by
  decide +kernel

/-- COLD 12/3 for hop 2 and throw 4: 001100 011, 010, 0100; and with throw field 15, purpose all. -/
theorem test_cold_words :
    Frame.ofRaw ⟨1, 12, 5, [0b00110001, 0b10100100], 0⟩ = some (.cold ⟨12, 3⟩ (.step 2 4)) ∧
    Frame.ofRaw ⟨1, 12, 5, [0b00110001, 0b10001111], 0⟩ = some (.cold ⟨12, 3⟩ .all) := by
  decide +kernel

/-- SCAN 12/3 with throws 0, 2, 4 and 6, dwell 1 and 2 cycles: 001100 011, 000001010101, 00000001,
00000010. -/
theorem test_scan_word :
    Frame.ofRaw ⟨2, 2, 14, [0b00110001, 0b10000010, 0b10101000, 0b00001000, 0b00010000], 0⟩ =
      some (.scan ⟨12, 3⟩ 0x055 1 2) := by
  decide +kernel

/-- The ROUTE-EXT of section 7.8, hop 4 at 41, E10, throw 4: 001001 101, 001, 101001 1010 0100. -/
theorem test_route_ext_word :
    Frame.ofRaw ⟨2, 2, 13, [0b00100110, 0b10011010, 0b01101001, 0b00000000], 0⟩ =
      some (.routeExt ⟨9, 5⟩ [⟨41, 10, 4⟩]) := by
  decide +kernel

/-- A one-hop ROUTE 9/5 in lane 1: 001001 101, 001, 0001, 0, 010100 0100 0010. -/
theorem test_route_word :
    Frame.ofRaw ⟨2, 2, 12, [0b00100110, 0b10010001, 0b00101000, 0b10000100], 0⟩ =
      some (.route ⟨9, 5⟩ 1 1 false [⟨20, 4, 2⟩]) := by
  decide +kernel

/-- QUERY of gate 3 to all stations: 1 000000, 10, 0011; and a class that is not the kind's. -/
theorem test_query_word :
    Frame.ofRaw ⟨3, 2, 20, [0b10000001, 0b00011000], 0⟩ = some (.query ⟨true, 0⟩ ⟨2, 3⟩) ∧
    Frame.ofRaw ⟨2, 2, 20, [0b10000001, 0b00011000], 0⟩ = none := by
  decide +kernel

/-- A HOPSTAT is three bytes long, and code 2 is no kind (R77). -/
theorem test_frames_of_wrong_form :
    Frame.ofRaw ⟨1, 12, 9, [0, 0], 0⟩ = none ∧ Frame.ofRaw ⟨0, 12, 2, [0, 0, 0], 0⟩ = none := by
  decide +kernel

/-! ### Start-up -/

/-- The image of section 11.7. -/
def image : List Byte :=
  [0x5A, 33, 2, 0, 20, 5, 0x09, 0, 150, 0, 40, 1, 44, 0, 30, 0, 2, 2, 0] ++
    [1, 12, 0xC0, 0x01, 0xFF, 0xFE] ++ [3, 4, 0, 0, 0, 0] ++ [0x04, 0x7E]

/-- The node while it reads its image. -/
def reading : State := next (.resetHigh 20) State.reset

theorem test_reset_low_clears :
    next .resetLow (withE5 e5) = { State.reset with coilOk := true } := by decide +kernel

theorem test_reset_high_reads_straps :
    (next (.resetHigh 0b010100) State.reset).address = 20 ∧
    (next (.resetHigh 0b010100) State.reset).spi = ⟨true, [3, 0, 0]⟩ := by decide +kernel

theorem test_image_accepted :
    (next (.imageReadDone image) reading).nodeState = .seeding ∧
    (next (.imageReadDone image) reading).config = ⟨false, 20, 5, 9, 150, 40, 250, 30, 2, 2, 0⟩ ∧
    ((next (.imageReadDone image) reading).elem 0).map (fun x => (x.wear, x.wearWarning, x.park)) =
      some (131070, false, some 0) ∧
    (next (.imageReadDone image) reading).elementCount = 2 := by decide +kernel

theorem test_image_with_bad_check_refused :
    (next (.imageReadDone (image.set 32 0x7F)) reading).nodeState = .configFault ∧
    (next (.imageReadDone (image.set 32 0x7F)) reading).fault.kind = some .configBad := by
  decide +kernel

/-! ### Position sense -/

/-- E5 in section 3.9.2 at 47.0 ms. -/
def verifying : Element :=
  { owned e5 .verifying with commanded := some 9, target := some 9, half := .one }

/-- The read of group 0 that shows MULTI at E5 queues the retry, and it is granted at once; a second mismatch
takes E5 to FAULT, its half UNKNOWN again (R31). -/
theorem test_mismatch_retried :
    let t := next (.senseGroupRead [0, 0, 0, 0, 0, 0x300, 0, 0]) (withE5 verifying)
    let u := next (.senseGroupRead (List.replicate 8 0)) (withE5 { verifying with retry := true })
    (u.elem 5).map (fun x => (x.state, x.half)) = some (.fault, .unknown) ∧
    (t.elem 5).map (fun x => (x.state, x.retry, x.half, x.sensed)) =
      some (.moving, true, .unknown, .multi) ∧
    t.services.map (fun v => (v.pulses, v.duration)) = [(2, 385)] := by decide +kernel

/-- The drop-out of section 8.11: the second mismatched read of a LIVE element. -/
theorem test_drop_out_breaks_path :
    let x := { owned e5 .live with mismatchRun := 1 }
    let t := next (.senseGroupRead (List.replicate 8 0)) (withE5 x)
    (t.elem 5).map (fun x => (x.state, x.faultLatch)) = some (.fault, true) ∧
    t.quenchDriven = true ∧ t.fault = ⟨some .dropOut, some 5, some ⟨12, 3⟩, 0⟩ ∧
    t.txQueue.map (·.item) =
      [.frame (.notice .faultCaptured none 2), .frame (.brk ⟨12, 3⟩ 2 19)] := by decide +kernel

/-! ### Moves and channels -/

/-- Section 3.9.1 at 12.3 ms: E5's move to throw 9 has been granted. -/
def moving : State :=
  (withE5 { owned e5 .waiting with target := some 9 }).queueMove 5 9 2

/-- The row of section 3.9.3 for a cascaded move that changes halves. -/
theorem test_grant_of_section_3_9_1 :
    moving.services = [⟨5, 9, 2, 2, 345, some 0, 345⟩] ∧
    moving.channel 0 = .pulsing 5 9 2 2 .front 305 ∧
    moving.coilOf (moving.channel 0) = .front 5 .one := by decide +kernel

/-- At 27.3 ms D has 19.5 ms left. -/
theorem test_front_pulse_ends :
    let t := next (.cascadeFrontPulseEnd 0) moving
    t.channel 0 = .pulsing 5 9 2 2 .gap 155 ∧ t.services.map (·.left) = [195] ∧
    t.coilOf (t.channel 0) = .none := by decide +kernel

/-- The node at 27.3 ms. -/
def inGap : State := next (.cascadeFrontPulseEnd 0) moving

theorem test_gap_ends :
    let t := next (.cascadeGapEnd 0) inGap
    t.channel 0 = .pulsing 5 9 2 2 .last 150 ∧ t.coilOf (t.channel 0) = .throw 5 9 := by
  decide +kernel

/-- The node at 27.8 ms. -/
def inRear : State := next (.cascadeGapEnd 0) inGap

/-- The second pulse ends (section 2.8): half 1, wear 131072, warning set; lane 2 becomes the lowest. -/
theorem test_pulsing_ends :
    let t := next (.pulsingEnd 0) inRear
    (t.elem 5).map (fun x => (x.half, x.wear, x.wearWarning)) = some (.one, 131072, true) ∧
    t.channel 0 = .recovering 10 ∧ t.orderHead = 3 ∧ t.services.map (·.left) = [40] := by
  decide +kernel

theorem test_move_ends :
    let t := next (.moveDExpires 5) (next (.pulsingEnd 0) inRear)
    (t.elem 5).map (·.state) = some .verifying ∧ t.services = [] := by decide +kernel

/-- R15: a MOVING element whose owner's RELEASE was seen is released from step 2, at its D, so the run of 1 that
a COLD step left (R108) stands while it returns to throw 0. -/
theorem test_released_move_ends :
    let x := { owned (free .failsafe false) .moving with
      target := some 2, commanded := some 2, hold := some 2, mismatchRun := 1 }
    let s := { withE5 x with services := [⟨5, 2, 2, 1, 190, none, 0⟩] }
    let t := next (.moveDExpires 5) (next .frameSeenRelease (s.seeing 12 (.release ⟨12, 3⟩ 14)))
    (t.elem 5).map (fun x => (x.state, x.owner, x.target, x.mismatchRun)) =
      some (.returning, none, some 0, 1) := by decide +kernel

/-- Section 4.12: seven moves wait for COILOK, in their arrival order. -/
def waiting7 : State :=
  let l := { owned (free .latching false) .waiting with target := some 1 }
  let f := { owned (free .failsafe false) .waiting with target := some 1 }
  let s := [1, 2, 9, 10, 11, 12].foldl (fun s e => s.setElem e l) (node.setElem 3 f)
  { s with
    coilOk := false
    moveQueue := [⟨1, 1, 2, true⟩, ⟨2, 1, 2, true⟩, ⟨3, 1, 0, true⟩, ⟨9, 1, 5, true⟩,
      ⟨10, 1, 2, true⟩, ⟨11, 1, 7, true⟩, ⟨12, 1, 0, true⟩] }

theorem test_four_grants_on_rise :
    (next .coilokRise waiting7).services.map (·.elem) = [3, 12, 1, 2] ∧
    (next .coilokRise waiting7).moveQueue.map (·.elem) = [9, 10, 11] := by decide +kernel

/-- At 11.0 channel a is IDLE, and E10 of lane 2 is granted before E9 and E11. -/
theorem test_recovery_end_grants :
    let t := next (.channelRecoveryEnd 0) (next (.pulsingEnd 0) (next .coilokRise waiting7))
    t.moveQueue.map (·.elem) = [9, 11] ∧ t.orderHead = 1 := by decide +kernel

theorem test_supply_lost_captured_once :
    (next .coilokFall (next .coilokRise waiting7)).fault = ⟨some .supplyLost, none, none, 0⟩ ∧
    (next .coilokFall moving).services = moving.services := by decide +kernel

/-- An S element's move sets its control inputs (R1), with no channel. -/
theorem test_solid_state_control :
    let t := (withE5 { owned (free .solidState false) .waiting with target := some 3 }).queueMove 5 3 2
    t.control 5 = 3 ∧ t.control 4 = 0 ∧ t.services.map (·.channel) = [none] := by decide +kernel

/-- The durations of section 3.9.3 for a class F pull-in, its retry and its return, and section 3.9.4's
clamps. -/
theorem test_durations :
    moveDuration figures (free .failsafe false) 1 = 130 ∧
    moveDuration figures { free .failsafe false with retry := true } 1 = 160 ∧
    moveDuration figures (free .failsafe false) 0 = 30 ∧
    moveDuration { figures with pL := 250, sL := 250 } { e5 with retry := true } 2 = 1000 ∧
    moveDuration { figures with sS := 0 } (free .solidState false) 0 = 1 := by decide +kernel

/-! ### Claims and slot timers -/

/-- E5 claimed for path 12/3 with target 9. -/
def claimed : State := withE5 { owned e5 .claimed with target := some 9 }

theorem test_claim_expires :
    let t := next (.tentativeClaimTimerExpiry ⟨12, 3⟩) claimed
    (t.elem 5).map (fun x => (x.state, x.owner, x.target)) = some (.free, none, none) ∧
    t.txQueue.map (·.item) = [.frame (.hopstat ⟨12, 3⟩ 2 .refused 8 false)] := by decide +kernel

/-- Section 8.13: the release with reason SetupTimeout keeps the ready set. -/
theorem test_setup_timer_expires :
    let t := next (.setupStepTimerExpiry 3)
      (withSlot { slotIn .collecting with ready := 3, timer := some 200 })
    (t.slot 3).state = .releasing ∧ (t.slot 3).ready = 3 ∧
    t.txQueue.map (·.item) = [.frame (.release own 15)] := by decide +kernel

theorem test_quench_for_release_expires :
    let t := next (.quenchTimerExpiryRelease 3) (withSlot { slotIn .quenching with
      quenchTimer := some 20, purpose := some .release, releaseReason := some .dropped })
    (t.slot 3).state = .releasing ∧ t.txQueue.map (·.item) = [.frame (.release own 14)] := by
  decide +kernel

/-- Section 9.9 at the quench expiry: COLD names hop 2 and throw 2, and the ready set is {0, 1}. -/
theorem test_quench_for_step_expires :
    let t := next (.quenchTimerExpiryStep 3) (withSlot { slotIn .quenching with
      quenchTimer := some 20, purpose := some .step, stepThrow := some 2 })
    (t.slot 3).state = .stepping ∧ (t.slot 3).ready = 3 ∧ (t.slot 3).timer = some 200 ∧
    (t.slot 3).lastThrow = some 2 ∧
    t.txQueue.map (·.item) = [.frame (.cold own (.step 2 2))] := by decide +kernel

theorem test_resume_opens_gate :
    let t := next (.resumeTimerExpiry 3) (withSlot { slotIn .held with
      quenchTimer := some 20, purpose := some .resume })
    t.gate 3 = true ∧ (t.slot 3).state = .hot ∧ t.txQueue.map (·.item) = [.frame (.hot own)] := by
  decide +kernel

/-! ### Triggers and the quench line -/

/-- Section 9.9: with the dwell count at 0 the next throw of the set is 2. -/
theorem test_trigger_steps :
    let t := next (.triggerEdge 3) (withSlot { slotIn .hot with scan := some { scan with dwell := 0 } })
    (t.slot 3).state = .quenching ∧ (t.slot 3).stepThrow = some 2 ∧ t.gate 3 = false ∧
    (t.slot 3).scan.map (·.dwell) = some 1 ∧ t.txQueue = [] := by decide +kernel

/-- The end of section 9.9: at throw 6 with one cycle left the wrap ends the scan. -/
theorem test_last_wrap_ends_scan :
    let t := next (.triggerEdge 3) (withSlot { slotIn .hot with
      scan := some { scan with current := 6, dwell := 0, cycles := 1 } })
    (t.slot 3).scan.map (fun sc => (sc.ended, sc.current)) = some (true, 6) ∧ t.gate 3 = true ∧
    t.txQueue.map (·.item) = [.frame (.notice .scanEnd (some own) 21)] := by decide +kernel

theorem test_assertion_holds_gate :
    let t := next .quenchAssertionSensed (withSlot (slotIn .hot))
    (t.slot 3).state = .held ∧ t.gate 3 = false ∧
    t.txQueue.map (·.item) = [.frame (.cold own .all)] := by decide +kernel

theorem test_release_starts_resume :
    let t := next .quenchReleaseSensed { withSlot (slotIn .held) with quenchSensed := true }
    (t.slot 3).quenchTimer = some 20 ∧ (t.slot 3).purpose = some .resume := by decide +kernel

/-! ### The Fabric Line -/

theorem test_resync_follows :
    (next .lineIdleResync { node with lineState := .seeking }).lineState = .following := by
  decide +kernel

/-- A BREAK queued last is offered first. -/
def offering : State :=
  next .txAttemptStart ((node.enqueue (.hot own)).enqueue (.brk ⟨7, 1⟩ 2 18))

theorem test_attempt_offers_break :
    offering.txQueue.map (·.inTransmission) = [false, true] ∧ offering.txPhase = .arbitrating none := by
  decide +kernel

theorem test_lost_attempt_keeps_place :
    (next .arbitrationLost offering).txQueue.map (·.inTransmission) = [false, false] ∧
    (next .arbitrationLost offering).txPhase = .quiet := by decide +kernel

theorem test_won_attempt_sends :
    (next .arbitrationWon offering).txPhase = .sending (.brk ⟨7, 1⟩ 2 18) := by decide +kernel

theorem test_own_frame_joins_receive_queue :
    let t := next (.frameEnd none false) (next .arbitrationWon offering)
    t.rxQueue = [⟨20, .brk ⟨7, 1⟩ 2 18⟩] ∧ t.txQueue.length = 1 := by decide +kernel

theorem test_good_frame_joins_receive_queue :
    (next (.frameEnd (some ((Frame.hot ⟨12, 3⟩).toRaw 12)) false) node).rxQueue =
      [⟨12, .hot ⟨12, 3⟩⟩] := by decide +kernel

theorem test_over_long_frame_counted :
    (next .overLongFrame node).badFrames = 1 ∧ (next .overLongFrame node).lineState = .seeking := by
  decide +kernel

/-- The start of section 6.10: 21 frames of class 1 and three of class 3, at places 3, 15 and 22. -/
def fullQueue : State :=
  { node with
    reportSlot := some ⟨0, 0⟩
    txQueue := List.replicate 2 ⟨.frame (.hot own), false, false⟩ ++
      [⟨.frame (.notice .started none 0), false, false⟩] ++
      List.replicate 11 ⟨.frame (.hot own), false, false⟩ ++ [⟨.report, false, false⟩] ++
      List.replicate 6 ⟨.frame (.hot own), false, false⟩ ++
      [⟨.frame (.notice .started none 0), false, false⟩] ++
      List.replicate 2 ⟨.frame (.hot own), false, false⟩ }

/-- Section 6.10 to its end: the counts of the three classes, the drops and the fault record. -/
theorem test_section_6_10 :
    let h := Frame.hopstat ⟨12, 3⟩ 2 .ready 0 false
    let b := Frame.brk ⟨12, 3⟩ 2 18
    let t := ((fullQueue.enqueue b).enqueue h).enqueue h
    let u := (t.enqueue h).enqueue b
    fullQueue.txQueue.length = 24 ∧ t.txDrops = 3 ∧ t.reportSlot = none ∧ t.fault = FaultRecord.empty ∧
    [0, 1, 2, 3].map (fun c => (t.txQueue.filter (fun y => y.item.cls == c)).length) = [1, 23, 0, 0] ∧
    (t.enqueue h).txDrops = 5 ∧ (t.enqueue h).fault = ⟨some .txLost, none, none, 0⟩ ∧
    [0, 1, 2, 3].map (fun c => (u.txQueue.filter (fun y => y.item.cls == c)).length) = [2, 22, 0, 0] ∧
    u.txDrops = 6 ∧ u.fault.later = 1 := by decide +kernel

/-! ### Frames of route setup -/

/-- Node 20 of section 7.8, with its E4 and E6 FREE. -/
def node20 : State :=
  (node.setElem 4 { free .failsafe false with throws := 4, commanded := some 0, sensed := .throw 0 }).setElem
    6 { free .latching false with throws := 8, commanded := some 5, sensed := .throw 5 }

/-- The five hops of section 7.8: hops 0 to 3, and hop 4. -/
def hops4 : List Hop := [⟨9, 0, 1⟩, ⟨20, 4, 2⟩, ⟨20, 6, 5⟩, ⟨33, 7, 3⟩]

theorem test_extension_evicts_oldest :
    let table : List ExtEntry := [⟨3, own, []⟩, ⟨4, own, []⟩, ⟨5, own, []⟩, ⟨6, own, []⟩]
    (next .frameSeenRouteExt (State.seeing { node with extTable := table } 2
      (.routeExt ⟨9, 5⟩ [⟨41, 10, 4⟩]))).extTable.map (·.sender) = [4, 5, 6, 2] := by decide +kernel

/-- Node 20 claims E4 for hop 1 and E6 for hop 2, and the table's entry is gone. -/
def routed : State :=
  next .frameSeenRoute (State.seeing { node20 with extTable := [⟨2, ⟨9, 5⟩, [⟨41, 10, 4⟩]⟩] } 2
    (.route ⟨9, 5⟩ 1 5 true hops4))

theorem test_route_claims :
    (routed.elem 4).map (fun x => (x.state, x.target, x.owner)) =
      some (.claimed, some 2, some ⟨⟨9, 5⟩, 6, 1, true, some 200, 1, false⟩) ∧
    (routed.elem 6).map (fun x => (x.state, x.target)) = some (.claimed, some 5) ∧
    routed.extTable = [] ∧ routed.txQueue = [] := by decide +kernel

/-- A ROUTE in which node 20 is anchor and holds no hop: the slot collects and ACCEPT is queued. -/
theorem test_route_accepted_by_anchor :
    let t := next .frameSeenRoute (node.seeing 2 (.route own 1 1 false [⟨33, 7, 3⟩]))
    (t.slot 3).state = .collecting ∧ (t.slot 3).timer = some 200 ∧
    t.txQueue.map (·.item) = [.frame (.accept own)] := by decide +kernel

/-- E6 is at its target already and E4's pull-in starts with D = 130, so no readiness is reported. -/
theorem test_accept_confirms :
    let t := next .frameSeenAccept (routed.seeing 9 (.accept ⟨9, 5⟩))
    (t.elem 6).map (·.state) = some .set ∧ (t.elem 4).map (·.state) = some .moving ∧
    t.services.map (·.duration) = [130] ∧ t.txQueue = [] := by decide +kernel

theorem test_refuse_drops_claims :
    let t := next .frameSeenRefuse (routed.seeing 9 (.refuse ⟨9, 5⟩ 11))
    (t.elem 4).map (·.state) = some .free ∧ (t.elem 6).map (·.owner) = some none ∧
    t.txQueue = [] := by decide +kernel

/-! ### Frames of a path -/

/-- Section 9.9: the Ready for hop 2 reopens the gate, and the pending trigger lowers the dwell count. -/
theorem test_ready_reopens_gate :
    let sl := { slotIn .stepping with
      ready := 3, hops := [⟨12, 1, 1⟩, ⟨20, 4, 1⟩, ⟨33, 7, 2⟩], timer := some 100
      scan := some { scan with pending := true, overrun := 1 } }
    let t := next .frameSeenHopstat ((withSlot sl).seeing 33 (.hopstat own 4 .ready 0 false))
    (t.slot 3).state = .hot ∧ t.gate 3 = true ∧ (t.slot 3).ready = 7 ∧
    (t.slot 3).scan = some { scan with current := 2, dwell := 0, overrun := 1 } ∧
    t.txQueue.map (·.item) = [.frame (.hot own)] := by decide +kernel

theorem test_hot_makes_live :
    let t := next .frameSeenHot ((withE5 (owned e5 .set)).seeing 12 (.hot ⟨12, 3⟩))
    (t.elem 5).map (·.state) = some .live := by decide +kernel

/-- Section 5.9: a COLD step takes a LIVE element through SET to a move, started at once with D = 190. -/
theorem test_cold_step_moves :
    let t := next .frameSeenCold
      ((withE5 (owned (free .latching false) .live)).seeing 12 (.cold ⟨12, 3⟩ (.step 1 5)))
    let u := next .frameSeenCold (State.seeing
      (withE5 { owned (free .latching false) .set with mismatchRun := 1 }) 12 (.cold ⟨12, 3⟩ (.step 1 5)))
    (u.elem 5).map (fun x => (x.state, x.mismatchRun)) = some (.moving, 1) ∧
    (t.elem 5).map (fun x => (x.state, x.stepTarget, x.target)) = some (.moving, true, some 5) ∧
    t.services.map (·.duration) = [190] := by decide +kernel

/-- Section 4.13: with lane 7 held the return and the park move wait. -/
def released : State :=
  let e4 := { owned (free .failsafe false) .live with hold := some 2 }
  let e6 := { owned (free .latching false) .set with commanded := some 5, sensed := .throw 5 }
  next .frameSeenRelease (State.seeing
    { (node.setElem 4 e4).setElem 6 e6 with coilOk := false, laneHold := 0x80 } 12
    (.release ⟨12, 3⟩ 14))

theorem test_release_returns_and_parks :
    [4, 6].map (fun e => (released.elem e).map (fun x => (x.state, x.owner))) =
      [some (.returning, none), some (.returning, none)] ∧
    released.moveQueue = [⟨4, 0, 7, false⟩, ⟨6, 0, 7, true⟩] := by decide +kernel

/-- Section 4.13: the return starts although COILOK is low; the park move waits. -/
theorem test_lane_hold_lifted :
    let t := next .frameSeenLanehold (released.seeing 2 (.laneHold ⟨true, 0⟩ 0))
    (t.elem 4).map (fun x => (x.hold, x.commanded, x.wear)) = some (none, some 0, 131071) ∧
    t.services.map (·.duration) = [30] ∧ t.moveQueue.map (·.elem) = [6] := by decide +kernel

/-- Section 8.11: a BREAK finds its slot HELD and starts the quench time. -/
theorem test_break_ends_held_path :
    let t := next .frameSeenBreak ((withSlot (slotIn .held)).seeing 41 (.brk own 6 19))
    (t.slot 3).state = .quenching ∧ (t.slot 3).quenchTimer = some 20 ∧
    (t.slot 3).releaseReason = some .broken := by decide +kernel

theorem test_scan_creates_record :
    ((next .frameSeenScan ((withSlot (slotIn .hot)).seeing 2 (.scan own 0x055 1 2))).slot 3).scan =
      some scan := by decide +kernel

/-- Section 9.9: an ADVANCE with a trigger pending counts an overrun. -/
theorem test_advance_counts_overrun :
    ((next .frameSeenAdvance ((withSlot { slotIn .stepping with
      scan := some { scan with pending := true } }).seeing 2 (.advance own))).slot 3).scan.map
        (·.overrun) = some 1 := by decide +kernel

/-- Section 8.12, case one: the step's quench time becomes a release's and runs on. -/
theorem test_drop_during_step :
    let t := next .frameSeenDrop ((withSlot { slotIn .quenching with
      quenchTimer := some 12, purpose := some .step, stepThrow := some 4 }).seeing 2 (.drop own))
    t.slot 3 = { slotIn .quenching with
      quenchTimer := some 12, purpose := some .release, releaseReason := some .dropped } := by
  decide +kernel

/-! ### Queries, faults and the warm restart -/

/-- Section 12.5: a second QUERY replaces the subject of the REPORT that waits. -/
theorem test_query_replaces_subject :
    let t := next .frameSeenQuery (node.seeing 2 (.query ⟨true, 0⟩ ⟨0, 0⟩))
    let u := next .frameSeenQuery (t.seeing 2 (.query ⟨true, 0⟩ ⟨2, 3⟩))
    t.reportSlot = some ⟨0, 0⟩ ∧ u.reportSlot = some ⟨2, 3⟩ ∧ u.txQueue.length = 1 := by
  decide +kernel

/-- A node REPORT's index is 0 whatever the QUERY's (R78, R172). -/
theorem test_node_report_index :
    let s := { node with
      txQueue := [⟨.report, true, false⟩], reportSlot := some ⟨0, 7⟩, txPhase := .arbitrating none }
    (next .arbitrationWon s).txPhase = .sending (.report ⟨0, 0⟩ (s.reportContent ⟨0, 0⟩)) := by decide +kernel

/-- A REPORT lost at arbitration, or flagged, goes later with its old subject (R173). -/
theorem test_query_in_lost_arbitration :
    let s := { node with
      txQueue := [⟨.report, true, false⟩], reportSlot := some ⟨0, 0⟩, txPhase := .arbitrating none }
    let t := next .frameSeenQuery (s.seeing 2 (.query ⟨true, 0⟩ ⟨2, 3⟩))
    t.txPhase = .arbitrating (some ⟨2, 3⟩) ∧ (next .arbitrationLost t).reportSlot = some ⟨0, 0⟩ ∧
    (next (.frameEnd none true) (next .arbitrationWon t)).reportSlot = some ⟨0, 0⟩ ∧
    (next .arbitrationLost t).txPhase = .quiet := by decide +kernel

/-- A gate report of a HOT slot with three hops begins 010, 0011, 00000111, 0. -/
theorem test_gate_report :
    ((withSlot (slotIn .hot)).reportContent ⟨2, 3⟩).take 16 =
      [false, true, false, false, false, true, true, false, false, false, false, false, true, true, true,
        false] := by decide +kernel

theorem test_report_and_notice_have_no_effect :
    next .frameSeenReport (node.seeing 2 (.report ⟨0, 0⟩ [])) = node ∧
    next .frameSeenNotice (node.seeing 2 (.notice .started none 0)) = node := by decide +kernel

theorem test_clear_fault_frees_element :
    let x := { e5 with state := .fault, faultLatch := true, sensed := .throw 7 }
    let t := next .frameSeenClearfault (State.seeing
      { withE5 x with fault := ⟨some .stuck, some 5, none, 3⟩ } 2 (.clearFault ⟨false, 20⟩))
    (t.elem 5).map (fun x => (x.state, x.commanded, x.half)) = some (.free, some 7, .one) ∧
    t.fault = FaultRecord.empty := by decide +kernel

/-- The node of section 10.5: E4 LIVE in 12/3, E11 claimed in 7/2, and slot 3 HOT. -/
def restarting : State :=
  let e4 := owned (free .failsafe false) .live
  let e11 := { free .solidState false with
    state := .claimed, target := some 1, owner := some ⟨⟨7, 2⟩, 8, 1, true, some 50, 3, false⟩ }
  next .frameSeenRestart ((((withSlot (slotIn .hot)).setElem 4 e4).setElem 11 e11).seeing 2
    (.restart ⟨true, 0⟩))

theorem test_restart_queues_teardown :
    restarting.txQueue.map (·.item) = [.frame (.brk ⟨7, 2⟩ 8 18), .frame (.brk ⟨12, 3⟩ 2 18),
      .frame (.release own 18)] ∧
    restarting.gate 3 = false ∧ restarting.quenchDriven = true := by decide +kernel

/-- A drop-out BREAK that has left the transmit queue is not adopted: its handle gets a BREAK with reason Restart,
and seeing the old one accounts only for the break reason (R159, R160). -/
theorem test_sent_break_not_adopted :
    let s := { withE5 { owned e5 .fault with faultLatch := true } with
      breaksOut := [⟨12, 3⟩], rxQueue := [⟨2, .restart ⟨true, 0⟩⟩, ⟨20, .brk ⟨12, 3⟩ 2 19⟩] }
    let t := next .frameSeenRestart s
    let u := next .frameSeenBreak t
    t.txQueue.map (·.item) = [.frame (.brk ⟨12, 3⟩ 2 18)] ∧ u.breaksOut = [] ∧
    t.restart = some ⟨[], [.brk ⟨12, 3⟩], false, [.brk ⟨12, 3⟩]⟩ ∧
    u.restart = some ⟨[], [.brk ⟨12, 3⟩], false, []⟩ := by decide +kernel

theorem test_teardown_frame_queued :
    let r : RestartSeq := ⟨[.release own 18], [], false, []⟩
    (next .teardownFrameQueued { node with nodeState := .restarting, restart := some r }).restart =
      some ⟨[], [.release own], false, []⟩ := by decide +kernel

/-- The node of section 10.5 once every teardown frame is accounted for. -/
def accounted : State :=
  { restarting with txQueue := [], laneHold := 0x80, orderHead := 3, restart := some ⟨[], [], false, []⟩ }

theorem test_withdrawal_step :
    (next .restartWithdrawalStep accounted).laneHold = 0 ∧
    (next .restartWithdrawalStep accounted).orderHead = 0 := by decide +kernel

/-- At the release step the F element's return begins, the claim is dropped and the lane order is 0 to 7. -/
theorem test_release_step :
    let t := next .restartReleaseStep { next .restartWithdrawalStep accounted with orderHead := 3 }
    t.nodeState = .running ∧ t.orderHead = 0 ∧ (t.elem 4).map (·.state) = some .returning ∧
    (t.elem 11).map (·.state) = some .free ∧ (t.slot 3) = Slot.idle ∧
    t.txQueue.map (·.item) = [.frame (.notice .started none 0)] := by decide +kernel

/-! ### Witnesses: states and operands that meet the premises of the statements -/

/-- A property of every record in use, in a form that can be decided. -/
theorem forall_elem {s : State} {p : ElemNo → Element → Prop} (h : ∀ e, ∀ x ∈ s.elem e, p e x) :
    ∀ (e : ElemNo) (x : Element), s.elem e = some x → p e x :=
  fun e x hx => h e x hx

/-- `State.arbiterSafe`, in a form that can be decided. -/
abbrev arbiterCheck (s : State) : Prop :=
  (∀ e, s.hasEntry e = true →
    ∃ x ∈ s.elem e, x.state = .waiting ∨ (x.state = .returning ∧ x.verifyDue = false)) ∧
  (∀ e, s.hasService e = true →
    ∃ x ∈ s.elem e, x.state = .moving ∨ (x.state = .returning ∧ x.verifyDue = false)) ∧
  (∀ c e, (s.channel c).pulses e = true → s.hasService e = true) ∧
  (s.moveQueue.map (·.elem) ++ s.services.map (·.elem)).Nodup ∧
  (∀ e, ∀ x ∈ s.elem e, (x.state = .moving → s.hasService e = true) ∧
    (x.state = .waiting → s.hasEntry e = true) ∧
    (x.state = .returning → x.verifyDue = false → s.hasEntry e = true ∨ s.hasService e = true)) ∧
  (∀ m ∈ s.moveQueue, ∀ x ∈ s.elem m.elem, m.needsChannel = needsChannel x.cls m.target) ∧
  s.nodeState ≠ .starting ∧
  (s.nodeState = .seeding →
    s.moveQueue = [] ∧ s.services = [] ∧ ∀ e, ∀ x ∈ s.elem e, x.state = .free)

/-- Whether it holds. -/
def arbiterOk (s : State) : Bool := decide (arbiterCheck s)

theorem arbiterSafe_of_ok {s : State} (h : arbiterOk s = true) : s.arbiterSafe :=
  have h : arbiterCheck s := of_decide_eq_true h
  ⟨h.1, h.2.1, h.2.2.1, h.2.2.2.1, fun e x hx => (h.2.2.2.2.1 e x hx).1,
    fun m hm x hx => h.2.2.2.2.2.1 m hm x hx,
    fun _ e x hx => (h.2.2.2.2.1 e x hx).2.1, fun _ e x hx => (h.2.2.2.2.1 e x hx).2.2,
    fun hs => absurd hs h.2.2.2.2.2.2.1,
    fun hs => (h.2.2.2.2.2.2.2 hs).imp_right fun k => k.imp_right fun f e x hx => f e x hx⟩

/-- `State.statesSafe`, in a form that can be decided. -/
abbrev statesCheck (s : State) : Prop :=
  ∀ e, ∀ x ∈ s.elem e,
    (x.state = .free ∨ x.state = .returning → x.owner = none) ∧
    (∀ o ∈ x.owner, (o.tentative = true ↔ x.state = .claimed) ∧
      (o.claimTimer.isSome = true ↔ x.state = .claimed)) ∧
    (x.state = .claimed ∨ x.state = .waiting ∨ x.state = .verifying ∨ x.state = .set ∨
      x.state = .live → x.owner.isSome = true) ∧
    (x.releaseOnCompletion = true ↔ x.state = .moving ∧ x.owner = none) ∧
    (x.state = .free ∨ x.state = .set ∨ x.state = .live ∨ x.state = .fault → x.target = none) ∧
    (x.state = .claimed ∨ x.state = .waiting ∨ x.state = .moving ∨ x.state = .verifying ∨
      x.state = .returning → x.target.isSome = true) ∧
    (x.stepTarget = true → x.target.isSome = true) ∧
    (x.retry = true → x.state = .waiting ∨ x.state = .moving ∨ x.state = .verifying ∨
      x.state = .returning) ∧
    (x.verifyDue = true → x.state = .returning) ∧
    (x.mismatchRun ≠ 0 → x.state ≠ .free ∧ x.state ≠ .fault)

/-- Whether it holds. -/
def statesOk (s : State) : Bool := decide (statesCheck s)

theorem statesSafe_of_ok {s : State} (h : statesOk s = true) : s.statesSafe := fun e x hx =>
  have h : statesCheck s := of_decide_eq_true h
  have ⟨a, b, c, d, f, g, i, j, k, l⟩ := h e x hx
  ⟨a, b, c, d, f, g, i, j, k, l⟩

/-- Room for `n` frames in a node that restarts nothing. -/
theorem roomFor_of {s : State} {n : Nat} (h : s.restart = none)
    (k : s.txQueue.length + n ≤ Config.txCapacity) : s.roomFor n :=
  ⟨fun r hr => by simp [h] at hr, k⟩

theorem node_roomFor : node.roomFor 1 := roomFor_of rfl (by decide)

theorem roomFor_inRestart {s : State} {n : Nat} (k : s.txQueue.length + n ≤ Config.txCapacity) :
    s.inRestart.roomFor n :=
  ⟨fun r hr => by cases hr; rfl, k⟩

/-- The contacts of the node's group 0 with throw `t` closed at E5. -/
def contacts (t : Throw) : List ThrowSet := (List.replicate 8 0).set 5 (BitVec.twoPow 12 t)

theorem witness_StepRunsFrontCommand : State.reset.pending = [] := rfl

theorem witness_ResetHighStartsImageRead : State.reset.loader = .held ∧ node.loader ≠ .held := by
  decide

theorem witness_FaultyImageIsRefused :
    reading.nodeState = .starting ∧ reading.loader = .reading ∧ reading.roomFor 1 ∧
    reading.fault.kind = none ∧ imageFaulty (image.set 32 0x7F) ∧ imageFaulty [0xFF, 0xFF] := by
  refine ⟨by decide, by decide, roomFor_of rfl (by decide), by decide, ?_, ?_⟩ <;>
    (unfold imageFaulty; decide +kernel)

theorem witness_SoundImageIsAccepted :
    reading.nodeState = .starting ∧ reading.loader = .reading ∧ ¬imageFaulty image := by
  refine ⟨by decide, by decide, ?_⟩
  unfold imageFaulty
  decide +kernel

/-- The premises that the statements about a group read share, for a state with E5 in use. -/
abbrev readCheck (s : State) (t : Throw) : Prop :=
  (contacts t).length = 8 ∧ s.scanClock.isSome = true ∧ s.nodeState ≠ .seeding ∧
    ((s.afterStore (contacts t)).elem 5).isSome = true ∧ (5 : ElemNo).val / 8 = s.scanReads % 2

/-- The node in SEEDING before its first group 0 read. -/
def seedingFirst : State := { withE5 e5 with nodeState := .seeding, startUpDrive := true }

theorem witness_ReadStoresSensedThrow :
    12 ≤ 12 ∧ (∀ st ∈ [ElemState.free, .claimed, .fault],
      readCheck (withE5 { e5 with state := st }) 2 ∧ arbiterOk (withE5 { e5 with state := st }) = true) ∧
    (∀ s ∈ [moving, released, waiting7, seedingFirst], (contacts 2).length = 8 ∧
      s.scanClock = some 0 ∧ 0 ≤ 5 * s.scanReads ∧ s.scanReads % 2 = 0 ∧ arbiterOk s = true) ∧
    [moving.elem 5, released.elem 4, waiting7.elem 1, waiting7.elem 9].map
        (·.map (fun x => (x.state, x.verifyDue))) =
      [some (.moving, false), some (.returning, false), some (.waiting, false), some (.waiting, false)] ∧
    (released.elem 4).map (·.judged) = some false ∧ ¬released.grantable ∧
    ¬waiting7.grantable ∧ seedingFirst.nodeState = .seeding ∧
    ∀ (e : ElemNo) (x : Element), seedingFirst.elem e = some x → x.state = .free :=
  ⟨by decide, by decide +kernel, by decide +kernel, by decide +kernel, by decide +kernel,
    fun h => absurd h.2.1 (by decide +kernel), fun h => absurd h.2.1 (by decide +kernel), rfl,
    forall_elem (p := fun _ x => x.state = .free) (by decide +kernel)⟩

/-- A LIVE element whose last read did, or did not, show its commanded throw 2. -/
def exposed (run : Nat) : State := withE5 { owned e5 .live with mismatchRun := run }

theorem witness_ReadWatchesExposedElement :
    (∀ t ∈ [(2 : Throw), 3], ∀ run ∈ [0, 1],
      readCheck (exposed run) t ∧ arbiterOk (exposed run) = true ∧
        ((exposed run).afterStore (contacts t)).elem 5 =
          some { owned e5 .live with mismatchRun := run, sensed := .throw t }) := by decide +kernel

/-- E5 before the read that finds its drop-out: the node in RUNNING or RESTARTING, its fault record empty or
not, and a BREAK for the handle waiting or not. -/
def dropOuts : List State :=
  let covered := (exposed 1).enqueue (.brk ⟨12, 3⟩ 2 18)
  [exposed 1, covered, (exposed 1).faulted, covered.faulted, (exposed 1).inRestart, (exposed 1).faulted.inRestart]

/-- E4 and E5 about to drop out on one read, for handles `h4` and 12/3. -/
def twoDropOuts (h4 : Handle) : State :=
  (exposed 1).setElem 4 { owned e5 .live with
    mismatchRun := 1, owner := some { owner false with handle := h4, hop := 2 } }

theorem witness_DropOutQueuesBreak :
    (∀ s ∈ dropOuts, readCheck s 3 ∧ s.txQueue.length + 2 ≤ Config.txCapacity ∧
      (s.restart.map (·.waiting)).getD [] = [] ∧
      (s.judgedBelow (contacts 3) 5).elem 5 =
        some { owned e5 .live with mismatchRun := 1, sensed := .throw 3 }) ∧
    dropOuts.map (fun s => (s.nodeState, s.fault.kind, s.txQueue.any (TxEntry.isBreakOf ⟨12, 3⟩))) =
      [(.running, none, false), (.running, none, true), (.running, some .supplyLost, false),
        (.running, some .supplyLost, true), (.restarting, none, false),
        (.restarting, some .supplyLost, false)] ∧
    (∀ h4 ∈ [(⟨12, 3⟩ : Handle), ⟨7, 1⟩],
      let s := twoDropOuts h4
      let u := s.afterStore (contacts 3)
      readCheck s 3 ∧ s.nodeState = .running ∧ s.fault.kind = none ∧ s.restart = none ∧
        s.txQueue.length + 3 ≤ Config.txCapacity ∧
        u.elem 4 = some { owned e5 .live with
          mismatchRun := 1, owner := some { owner false with handle := h4, hop := 2 }, sensed := .noContact } ∧
        u.elem 5 = some { owned e5 .live with mismatchRun := 1, sensed := .throw 3 } ∧
        (∀ g, g ≠ 4 → g ≠ 5 → (u.elem g).isNone = true) ∧
        (s.judgedBelow (contacts 3) 5).txQueue.any (TxEntry.isBreakOf ⟨12, 3⟩) = (h4 == ⟨12, 3⟩)) ∧
    (some 2 : Option Throw).map Sensed.throw ≠ some (.throw 3) :=
  ⟨by decide +kernel, by decide +kernel, by decide +kernel, by decide⟩

/-- E5 before its verify read, with a step's target or not, on its first or its second try. -/
def verify (step retry : Bool) : State := withE5 { verifying with stepTarget := step, retry := retry }

theorem witness_ReadVerifiesMove :
    (∀ t ∈ [(9 : Throw), 2], ∀ step ∈ [false, true], ∀ retry ∈ [false, true],
      ∀ s ∈ [verify step retry, (verify step retry).faulted, (verify step retry).inRestart,
          (verify step retry).faulted.inRestart],
        readCheck s t ∧ (s.judgedBelow (contacts t) 5).elem 5 = some { verifying with
          stepTarget := step, retry := retry, sensed := .throw t } ∧
        s.txQueue.length + 2 ≤ Config.txCapacity ∧ (s.restart.map (·.waiting)).getD [] = []) ∧
    verifying.owner = some (owner false) ∧
    verifying.target = some 9 ∧ (verify false true).fault.kind = none ∧
    (verify false true).faulted.fault.kind = some .supplyLost :=
  ⟨by decide +kernel, rfl, rfl, rfl, rfl⟩

/-- E5 on its way back to throw 0 with D expired. -/
def returning (retry : Bool) : Element :=
  { e5 with state := .returning, commanded := some 0, target := some 0, retry := retry, verifyDue := true }

theorem witness_ReadVerifiesReturn :
    (∀ t ∈ [(0 : Throw), 2], ∀ retry ∈ [false, true],
      ∀ s ∈ [withE5 (returning retry), (withE5 (returning retry)).faulted,
          (withE5 (returning retry)).inRestart],
        readCheck s t ∧
          (s.judgedBelow (contacts t) 5).elem 5 = some { returning retry with sensed := .throw t }) ∧
    (∀ retry, (withE5 (returning retry)).roomFor 1 ∧
      (withE5 (returning retry)).inRestart.roomFor 1) :=
  ⟨by decide +kernel, fun _ => ⟨roomFor_of rfl (by show 1 ≤ 24; decide),
    roomFor_inRestart (by show 1 ≤ 24; decide)⟩⟩

/-- A node in SEEDING after its group 0 read. -/
def seeding : State := { withE5 e5 with nodeState := .seeding, startUpDrive := true, scanReads := 1 }

theorem witness_FirstLoopSeedsAndRuns :
    seeding.scanClock.isSome = true ∧ seeding.scanReads % 2 = 1 ∧ seeding.roomFor 1 ∧
    ∀ (e : ElemNo) (x : Element), seeding.elem e = some x → x.state = .free :=
  ⟨rfl, rfl, roomFor_of rfl (by decide),
    forall_elem (p := fun _ x => x.state = .free) (by decide +kernel)⟩

/-- Throws 5 and 6 lie on the two sides of a twelve-throw element's halves. -/
theorem witness_PulseCountOfMove :
    (free .solidState false).pulseCount 1 = 0 ∧ (free .failsafe false).pulseCount 0 = 0 ∧
    (free .failsafe false).pulseCount 1 = 1 ∧ (free .latching false).pulseCount 6 = 1 ∧
    e5.pulseCount 5 = 1 ∧ e5.pulseCount 6 = 2 ∧ (withE5 e5).elem 5 = some e5 := by decide +kernel

theorem witness_MoveDurationOfMove :
    (withE5 e5).elem 5 = some e5 ∧
    (∀ c ∈ [figures, { figures with pL := 250, sL := 250, pF := 250, sF := 250, sS := 250 },
        { figures with pL := 1, sL := 0, pF := 1, sF := 0, sS := 0 }],
      1 ≤ c.pL ∧ c.pL ≤ 250 ∧ c.sL ≤ 250 ∧ 1 ≤ c.pF ∧ c.pF ≤ 250 ∧ c.sF ≤ 250 ∧ c.sS ≤ 250) := by
  decide +kernel

/-- Section 4.12 with COILOK high and no grant made yet. -/
def risen : State := { waiting7 with coilOk := true }

theorem grantable_iff_check (s : State) : s.grantable ↔
    s.nodeState = .running ∧ s.coilOk = true ∧ (∃ c, s.channel c = .idle) ∧
      s.moveQueue.any (fun m => m.needsChannel && !laneHeld s.laneHold m.lane) = true := by
  simp [State.grantable]

theorem startable_iff_check (s : State) : s.startable ↔
    s.nodeState = .running ∧
      s.moveQueue.any (fun m => !m.needsChannel && !laneHeld s.laneHold m.lane) = true := by
  simp [State.startable]

theorem witness_GrantTakesHighestLaneEarliest : risen.arbiterSafe ∧ risen.grantable :=
  ⟨arbiterSafe_of_ok (by decide +kernel), (grantable_iff_check _).2 (by decide +kernel)⟩

/-- The node with E5 WAITING and its move not queued yet, and the states in which that move waits. -/
def unqueued : State := withE5 { owned e5 .waiting with target := some 9 }

theorem witness_QueuedMoveWaitsOrStarts :
    (∀ s ∈ [unqueued, { unqueued with nodeState := .restarting }, { unqueued with laneHold := 4 },
        { unqueued with coilOk := false }, { unqueued with channels := Vector.replicate 4 (.recovering 1) }],
      ¬s.grantable ∧ (s.elem 5).isSome = true ∧ s.hasEntry 5 = false) ∧
    ¬(withE5 (free .solidState false)).grantable ∧
    (withE5 (free .solidState false)).hasEntry 5 = false := by
  simp only [grantable_iff_check]
  decide +kernel

theorem witness_ChannelPulsesInTurn :
    moving.channel 0 = .pulsing 5 9 2 2 .front 305 ∧ inGap.channel 0 = .pulsing 5 9 2 2 .gap 155 ∧
    inRear.channel 0 = .pulsing 5 9 2 2 .last 150 ∧
    (∀ s ∈ [moving, inGap, inRear], (s.elem 5).isSome = true) := by decide +kernel

/-- Section 4.12 with a channel about to end its recovery. -/
def recovering : State := { risen with channels := risen.channels.set 0 (.recovering 3) }

theorem witness_RiseAndRecoveryEndGrant :
    waiting7.arbiterSafe ∧ risen.grantable ∧ ¬node.grantable ∧ node.arbiterSafe ∧
    recovering.arbiterSafe ∧ recovering.channel 0 = .recovering 3 := by
  refine ⟨arbiterSafe_of_ok (by decide +kernel), (grantable_iff_check _).2 (by decide +kernel), ?_,
    arbiterSafe_of_ok (by decide +kernel), arbiterSafe_of_ok (by decide +kernel),
    by decide +kernel⟩
  rw [grantable_iff_check]
  decide +kernel

theorem witness_CoilFallCapturesSupplyLost :
    node.coilOk = true ∧ (∀ c, (node.channel c).isPulsing = false) ∧
    moving.coilOk = true ∧ (∃ c, (moving.channel c).isPulsing = true) ∧ moving.roomFor 1 ∧
    moving.fault.kind = none ∧ (FaultRecord.mk (some FaultKind.stuck) none none 15).kind.isSome = true :=
  ⟨rfl, by decide +kernel, by decide +kernel, by decide +kernel,
    roomFor_of (by decide +kernel) (by decide +kernel), by decide +kernel, rfl⟩

theorem witness_ReleaseProcessingSteps :
    (∀ x ∈ [owned e5 .set, { owned e5 .fault with faultLatch := true },
        { owned e5 .set with commanded := some 0 }, { owned (free .failsafe false) .live with hold := some 2 }],
      (withE5 x).elem 5 = some x) := by decide +kernel

/-- E5 with a move in service, no channel pulsing for it, in state `st`. -/
def inService (st : ElemState) (roc : Bool) : State :=
  { withE5 { e5 with state := st, target := some 9, releaseOnCompletion := roc } with
    services := [⟨5, 9, 2, 1, 190, none, 0⟩] }

theorem witness_MoveDurationExpires :
    (∃ c, (moving.channel c).pulses 5 = true) ∧
    (moving.services.find? (fun r => r.elem == 5)).isSome = true ∧
    (∀ s ∈ [inService .moving false, inService .moving true, inService .returning false],
      (s.services.find? (fun r => r.elem == 5)).isSome = true ∧ (s.elem 5).isSome = true ∧
        ∀ c, (s.channel c).pulses 5 = false) ∧
    (∀ x ∈ (inService .moving true).elem 5,
      x.state = .moving ∧ x.releaseOnCompletion = true ∧ x.owner = none) := by decide +kernel

theorem witness_TentativeClaimsDropped :
    (∃ e, ∃ x ∈ claimed.elem e, x.claimedFor ⟨12, 3⟩ = true) ∧
    (∀ (e : ElemNo) (x : Element), claimed.elem e = some x → x.claimedFor ⟨12, 3⟩ = true →
      x.owner.bind (·.claimTimer) = some 200) ∧ claimed.roomFor 1 ∧
    (claimed.seeing 12 (.refuse ⟨12, 3⟩ 7)).headFrame = some ⟨12, .refuse ⟨12, 3⟩ 7⟩ :=
  ⟨by decide +kernel,
    forall_elem (p := fun _ x => x.claimedFor ⟨12, 3⟩ = true → x.owner.bind (·.claimTimer) = some 200)
      (by decide +kernel), roomFor_of rfl (by decide +kernel), by decide +kernel⟩

/-- The node with slot 3 in QUENCHING for `p`, its quench timer at 0. -/
def quenching (p : Purpose) : State :=
  withSlot { slotIn .quenching with
    quenchTimer := some 0, purpose := some p, releaseReason := some .dropped
    stepThrow := if p = .step then some 2 else none }

theorem witness_SlotTimersExpire :
    (∀ st ∈ [SlotState.collecting, .stepping],
      ((withSlot { slotIn st with timer := some 0 }).slot 3).timer = some 0 ∧
      ((withSlot { slotIn st with timer := some 0 }).slot 3).state = st) ∧
    (∀ p ∈ [Purpose.release, .step], ((quenching p).slot 3).quenchTimer = some 0 ∧
      ((quenching p).slot 3).purpose = some p ∧ ((quenching p).slot 3).hops.length = 3) ∧
    (quenching .step).roomFor 1 ∧ node.roomFor 1 :=
  ⟨by decide +kernel, by decide +kernel, roomFor_of rfl (by decide +kernel), node_roomFor⟩

theorem witness_ResumeTimeReopensGate :
    (∀ pending ∈ [false, true],
      let s := withSlot { slotIn .held with
        quenchTimer := some 20, purpose := some .resume, scan := some { scan with pending := pending } }
      s.nodeState = .running ∧ (s.slot 3).state = .held ∧ (s.slot 3).quenchTimer = some 20 ∧
        s.restart = none ∧ s.txQueue.length < Config.txCapacity) := by decide +kernel

/-- The node with a scan at slot 3 in state `st`. -/
def scanning (st : SlotState) (sc : Scan) : State := withSlot { slotIn st with scan := some sc }

theorem witness_TriggerStepsScan :
    (∀ st ∈ [SlotState.collecting, .idle, .releasing, .quenching, .stepping, .held, .hot],
      (scanning st scan).nodeState = .running ∧ (scanning st scan).restart = none ∧
        (scanning st scan).txQueue.length < Config.txCapacity ∧ ((scanning st scan).slot 3).state = st ∧
        ((scanning st scan).slot 3).scan = some scan) ∧
    ((scanning .hot scan).seeing 2 (.advance own)).headFrame = some ⟨2, .advance ⟨20, 3⟩⟩ ∧
    (∀ st ∈ [NodeState.restarting, .configFault],
      (State.seeing { scanning .held scan with nodeState := st } 2 (.advance own)).headFrame =
        some ⟨2, .advance ⟨20, 3⟩⟩) ∧
    (∀ sc ∈ [{ scan with dwell := 0 }, { scan with dwell := 0, current := 6, cycles := 1 },
        { scan with dwell := 0, throws := 1 }],
      sc.ended = false ∧ inSet sc.throws sc.current = true) := by decide +kernel

theorem witness_QuenchLineHoldsGates :
    (∀ st ∈ [SlotState.hot, .held, .stepping], (withSlot (slotIn st)).nodeState = .running ∧
      (withSlot (slotIn st)).quenchSensed = false ∧
      (withSlot (slotIn st)).txQueue.length + 8 ≤ Config.txCapacity) ∧
    (∀ s ∈ [{ withSlot (slotIn .held) with quenchSensed := true }],
      s.quenchSensed = true ∧ s.quenchDriven = false) ∧
    (∀ q ∈ [false, true],
      let s := { node with nodeState := .configFault, quenchSensed := q }
      s.nodeState ≠ .running ∧ s.quenchDriven = false) := by decide +kernel

/-- The queue of `offering` before the attempt. -/
def queued : State := (node.enqueue (.hot own)).enqueue (.brk ⟨7, 1⟩ 2 18)

/-- A REPORT in arbitration. -/
def offeringReport : State :=
  { node with
    txQueue := [⟨.report, true, false⟩], reportSlot := some ⟨0, 0⟩, txPhase := .arbitrating none }

theorem witness_AttemptOffersMostUrgent :
    queued.lineState = .following ∧ queued.nodeState.takesFrames = true ∧ queued.txPhase = .quiet ∧
    queued.txQueue[1]? = some ⟨.frame (.brk ⟨7, 1⟩ 2 18), false, false⟩ ∧
    (∀ j, j < 2 → ∀ y ∈ queued.txQueue[j]?, 0 < y.item.cls ∨ 0 = y.item.cls ∧ 1 ≤ j) ∧
    offering.txPhase = .arbitrating none ∧
    offering.txQueue.find? (fun y => y.inTransmission) =
      some ⟨.frame (.brk ⟨7, 1⟩ 2 18), true, false⟩ ∧
    ∀ q ∈ [none, some (Subject.mk 2 3)],
      let s := { offeringReport with txPhase := .arbitrating q }
      s.txPhase = .arbitrating q ∧ s.reportSlot = some ⟨0, 0⟩ ∧
        s.txQueue.find? (fun y => y.inTransmission) = some ⟨.report, true, false⟩ := by
  decide +kernel

/-- The node about to end its own drop-out BREAK with its receive queue full. -/
def losing : State :=
  { next .arbitrationWon (next .txAttemptStart (node.enqueue (.brk ⟨7, 1⟩ 2 19))) with
    rxQueue := List.replicate 16 ⟨12, .hot own⟩, breaksOut := [⟨7, 1⟩] }

theorem witness_OwnFrameEnds :
    (next .arbitrationWon offering).txPhase = .sending (.brk ⟨7, 1⟩ 2 18) ∧
    (next .arbitrationWon offering).txQueue.any (fun y => y.inTransmission && y.leaving) = false ∧
    (next .arbitrationWon offering).rxQueue.length < Config.rxCapacity ∧
    (∀ s ∈ [losing, losing.faulted, losing.inRestart, losing.faulted.inRestart],
      s.txPhase = .sending (.brk ⟨7, 1⟩ 2 19) ∧ s.rxQueue.length = Config.rxCapacity ∧
        (s.txQueue.filter (fun y => !y.inTransmission)).length + 1 ≤ Config.txCapacity ∧
        (s.restart.map (·.waiting)).getD [] = []) ∧
    (next .arbitrationWon { offering with txQueue := leavingOnly offering.txQueue }).txPhase =
      .sending (.brk ⟨7, 1⟩ 2 18) ∧
    (leavingOnly offering.txQueue).any (fun y => y.inTransmission && y.leaving) = true ∧
    losing.fault.kind = none ∧ losing.faulted.fault.kind.isSome = true := by decide +kernel

/-- The longest frame, a class 2 ROUTE with a CRC that is wrong, and one byte more. -/
theorem witness_FrameIsCheckedAndQueued :
    node.txPhase = .quiet ∧ node.lineState = .following ∧ node.nodeState.takesFrames = true ∧
    State.reset.lineState ≠ .following ∧ node.rxQueue.length < Config.rxCapacity ∧
    12 < (RawFrame.mk 1 12 4 (List.replicate 13 0) 0).payload.length ∧
    (RawFrame.mk 1 12 4 (List.replicate 12 0) 0).payload.length ≤ 12 ∧
    (RawFrame.mk 1 12 4 (List.replicate 12 0) 0).crc ≠
      rawCrc (RawFrame.mk 1 12 4 (List.replicate 12 0) 0) ∧
    Frame.ofRaw ((Frame.hot own).toRaw 12) = some (.hot own) ∧
    ((Frame.hot own).toRaw 12).crc = rawCrc ((Frame.hot own).toRaw 12) := by decide +kernel

/-- The node in state `st` with its receive queue full and fault record `f`. -/
def overrun (st : NodeState) (f : FaultRecord) : State :=
  { node with
    nodeState := st, fault := f, rxQueue := List.replicate 16 ⟨12, .hot own⟩
    restart := if st = .restarting then some ⟨[], [], false, []⟩ else none }

theorem witness_ReceiveOverflowRestarts :
    (∀ st ∈ [NodeState.running, .restarting, .configFault],
      ∀ f ∈ [FaultRecord.empty, ⟨some .stuck, none, none, 15⟩],
        (overrun st f).txPhase = .quiet ∧ (overrun st f).lineState = .following ∧
        (overrun st f).rxQueue.length = Config.rxCapacity ∧ (overrun st f).nodeState = st ∧
        (overrun st f).fault.kind = f.kind ∧ (overrun st f).txQueue.length < Config.txCapacity) ∧
    ((Frame.hot own).toRaw 12).sender.toFin ≠ node.address ∧
    ((Frame.hot own).toRaw 12).payload.length ≤ 12 ∧
    ((Frame.hot own).toRaw 12).crc = rawCrc ((Frame.hot own).toRaw 12) ∧
    Frame.ofRaw ((Frame.hot own).toRaw 12) = some (.hot own) := by decide +kernel

/-- A restart with a teardown frame outside meets the full queue as any node does. -/
theorem witness_TransmitOverflow :
    ({ fullQueue with restart := some ⟨[.release own 18], [.brk ⟨7, 1⟩], false, []⟩ } : State).txQueue.length =
      Config.txCapacity ∧
    fullQueue.txQueue.length = Config.txCapacity ∧
    fullQueue.txQueue[21]? = some ⟨.frame (.notice .started none 0), false, false⟩ ∧
    (∀ j, j < 24 → ∀ y ∈ fullQueue.txQueue[j]?, y.inTransmission = false → 0 < y.item.cls →
      y.item.cls < 3 ∨ y.item.cls = 3 ∧ j ≤ 21) ∧
    (∀ y ∈ List.replicate 24 (TxEntry.mk (.frame (.hot own)) false false),
      y.inTransmission = true ∨ y.item.cls ≤ (Frame.hot own).cls) := by decide +kernel

/-- An extension table of the senders given. -/
def tableOf (senders : List Address) : List ExtEntry := senders.map (fun a => ⟨a, ⟨9, 5⟩, [⟨41, 10, 4⟩]⟩)

theorem witness_ExtensionIsFiled :
    (∀ l ∈ [[3, 4, 5, 2], [3, 4, 5], [3, 4, 5, (6 : Address)]],
      let s := State.seeing { node with extTable := tableOf l } 2 (.routeExt ⟨9, 5⟩ [⟨41, 10, 4⟩])
      s.headFrame = some ⟨2, .routeExt ⟨9, 5⟩ [⟨41, 10, 4⟩]⟩ ∧ s.extTable.length ≤ 4 ∧
        (s.extTable.map (·.sender)).Nodup) ∧
    2 ∈ (tableOf [3, 4, 5, 2]).map (·.sender) ∧ 2 ∉ (tableOf [3, 4, 5]).map (·.sender) := by
  decide +kernel

theorem witness_RouteHopListResolved :
    hops4.length = min (5 : Fin 16).val 4 ∧
    (tableOf [2]).find? (fun x => x.sender == 2) = some ⟨2, ⟨9, 5⟩, [⟨41, 10, 4⟩]⟩ ∧
    (∀ x ∈ (tableOf [3]).find? (fun x => x.sender == 2), x.handle ≠ ⟨9, 5⟩) := by decide +kernel

/-- A ROUTE of handle `h` that names one hop elsewhere, at a node with gates `gates` enabled and slot 3 in
state `st`. -/
def routeElsewhere (gates : BitVec 8) (st : SlotState) (count : Fin 16) : State :=
  State.seeing { withSlot (if st = .idle then Slot.idle else slotIn st) with
    config := { figures with gateEnable := gates } } 2 (.route own 1 count false [⟨33, 7, 3⟩])

theorem witness_RouteAtAnchor :
    (∀ s ∈ [routeElsewhere 0 .idle 1, routeElsewhere 8 .hot 1, routeElsewhere 8 .idle 1],
      s.headFrame = some ⟨2, .route own 1 1 false [⟨33, 7, 3⟩]⟩ ∧ s.nodeState = .running ∧
        s.restart = none ∧ s.txQueue.length < Config.txCapacity) ∧
    (routeElsewhere 8 .idle 0).headFrame = some ⟨2, .route own 1 0 false [⟨33, 7, 3⟩]⟩ ∧
    ∀ p ∈ (resolveRoute [] 2 own 1 false [⟨33, 7, 3⟩]).hops, p.2.node ≠ node.address := by
  decide +kernel

/-- What a ROUTE of path 9/5 with count `n` and hops `l` meets at node 20 with E4 as `x` and E6 as it is. -/
def routeMeets (x : Element) (n : Fin 16) (l : List Hop) : State × List Hop × Fin 16 :=
  (State.seeing (node20.setElem 4 x) 2 (.route ⟨9, 5⟩ 1 n false l), l, n)

/-- A ROUTE for each reason of refusal, in the order of the checks, and the code of the reason. -/
def refusals : List ((State × List Hop × Fin 16) × BitVec 4) :=
  let x := { free .failsafe false with throws := 4, commanded := some 0 }
  let held := { x with state := .set, owner := some (owner false) }
  [(routeMeets x 2 [⟨20, 4, 2⟩, ⟨20, 4, 1⟩], 2), (routeMeets x 1 [⟨20, 4, 12⟩], 2),
    (routeMeets x 5 [⟨20, 4, 2⟩, ⟨20, 6, 5⟩, ⟨33, 7, 3⟩, ⟨33, 8, 1⟩], 2),
    (routeMeets x 1 [⟨20, 9, 1⟩], 3), (routeMeets x 1 [⟨20, 4, 4⟩], 4),
    (routeMeets { held with owner := some { owner false with handle := ⟨9, 5⟩ } } 1 [⟨20, 6, 2⟩], 5),
    (routeMeets { x with state := .fault } 1 [⟨20, 4, 2⟩], 6), (routeMeets held 1 [⟨20, 4, 2⟩], 7)]

theorem witness_RouteAtHopNode :
    (let s := State.seeing { node20 with extTable := tableOf [2] } 2 (.route ⟨9, 5⟩ 1 5 true hops4)
    let r := resolveRoute s.extTable 2 ⟨9, 5⟩ 5 true hops4
    s.headFrame = some ⟨2, .route ⟨9, 5⟩ 1 5 true hops4⟩ ∧ s.nodeState = .running ∧
    s.restart = none ∧ s.txQueue.length + 2 ≤ Config.txCapacity ∧
    r.hops.filter (fun p => p.2.node == s.address) ≠ [] ∧ (r.hops.map (·.1)).Nodup) ∧
    ∀ p ∈ refusals, let (s, l, n) := p.1
      let r := resolveRoute s.extTable 2 ⟨9, 5⟩ n false l
      s.headFrame = some ⟨2, .route ⟨9, 5⟩ 1 n false l⟩ ∧ s.nodeState = .running ∧ s.restart = none ∧
        s.txQueue.length + 2 ≤ Config.txCapacity ∧ r.hops.filter (fun q => q.2.node == s.address) ≠ [] ∧
        (r.hops.map (·.1)).Nodup ∧ (next .frameSeenRoute s).txQueue.map (·.item) =
          [.frame (.hopstat ⟨9, 5⟩ (hopMaskOf (r.hops.filter (fun q => q.2.node == s.address)))
            .refused p.2 false)] := by
  decide +kernel

theorem witness_RouteAnsweredNotRunning :
    (∀ st ∈ [NodeState.restarting, .configFault],
      (State.seeing { node with nodeState := st } 2 (.route own 1 1 false [⟨33, 7, 3⟩])).headFrame =
        some ⟨2, .route own 1 1 false [⟨33, 7, 3⟩]⟩) ∧ node.roomFor 1 ∧ own.anchor = node.address :=
  ⟨by decide +kernel, node_roomFor, rfl⟩

theorem witness_AcceptConfirmsClaims :
    let s := routed.seeing 9 (.accept ⟨9, 5⟩)
    s.headFrame = some ⟨9, .accept ⟨9, 5⟩⟩ ∧ s.nodeState = .running ∧ s.roomFor 1 ∧ s.arbiterSafe ∧
    s.statesSafe ∧ ¬s.grantable :=
  ⟨by decide +kernel, by decide +kernel, roomFor_of (by decide +kernel) (by decide +kernel),
    arbiterSafe_of_ok (by decide +kernel), statesSafe_of_ok (by decide +kernel),
    by rw [grantable_iff_check]; decide +kernel⟩

theorem witness_FramesWithoutEffect :
    (∀ f ∈ [Frame.hot ⟨12, 3⟩, .cold ⟨12, 3⟩ .all, .release ⟨12, 3⟩ 14, .accept ⟨12, 3⟩,
        .refuse ⟨12, 3⟩ 7, .hopstat ⟨12, 3⟩ 2 .fault 9 false, .drop ⟨12, 3⟩, .advance ⟨12, 3⟩,
        .brk ⟨12, 3⟩ 2 19, .report ⟨0, 0⟩ [], .notice .started none 0],
      (node.seeing 11 f).headFrame = some ⟨11, f⟩) ∧ (11 : Address) ≠ (⟨12, 3⟩ : Handle).anchor ∧
    (∀ st ∈ [NodeState.restarting, .configFault], ∀ f ∈ [Frame.hot ⟨12, 3⟩, .cold ⟨12, 3⟩ .all,
        .release ⟨12, 3⟩ 14, .accept ⟨12, 3⟩, .refuse ⟨12, 3⟩ 7, .hopstat own 2 .refused 7 false, .drop own,
        .brk own 2 19, .scan own 1 1 1, .advance own],
      (State.seeing { node with nodeState := st } 12 f).headFrame = some ⟨12, f⟩) ∧
    own.anchor = node.address ∧ (⟨12, 3⟩ : Handle).anchor ≠ node.address ∧ 12 ≠ node.address := by
  decide +kernel

/-- A slot that waits for the last of its three hops. -/
def almost (st : SlotState) (pending asserted : Bool) : State :=
  State.seeing { withSlot { slotIn st with
      ready := 3, timer := some 1
      scan := if st = .stepping then some { scan with pending := pending } else none } with
    quenchSensed := asserted } 33 (.hopstat own 4 .ready 0 false)

theorem witness_ReadyReportsFillSet :
    (∀ st ∈ [SlotState.collecting, .stepping], ∀ p ∈ [false, true], ∀ a ∈ [false, true],
      let s := almost st p a
      s.headFrame = some ⟨33, .hopstat own 4 .ready 0 false⟩ ∧ s.nodeState = .running ∧
        own.anchor = s.address ∧ (s.slot 3).state = st ∧ (s.slot 3).hops.length = 3 ∧
        (s.slot 3).ready &&& ~~~(fullMask 3) = 0 ∧ s.restart = none ∧
        s.txQueue.length < Config.txCapacity) ∧
    ((withSlot (slotIn .hot)).seeing 33 (.hopstat own 4 .ready 0 false)).headFrame =
      some ⟨33, .hopstat own 4 .ready 0 false⟩ := by decide +kernel

theorem witness_PathEndingCauses :
    (∀ st ∈ [SlotState.collecting, .hot, .stepping, .held, .releasing, .idle, .quenching],
      ∀ f ∈ [Frame.hopstat own 4 .refused 7 false, .hopstat own 4 .fault 9 false, .drop own,
          .brk own 6 19],
        ((withSlot (slotIn st)).seeing 33 f).headFrame = some ⟨33, f⟩ ∧
        ((withSlot (slotIn st)).seeing 33 f).nodeState = .running ∧
        ((withSlot (slotIn st)).seeing 33 f).txQueue.length < Config.txCapacity) ∧
    ((quenching .step).seeing 20 (.brk own 6 19)).headFrame = some ⟨20, .brk own 6 19⟩ ∧ node.drivesSafe :=
  ⟨by decide +kernel, by decide +kernel, ⟨by decide, by decide, by decide⟩⟩

theorem witness_HotAndColdExpose :
    ((withE5 (owned e5 .set)).seeing 12 (.hot ⟨12, 3⟩)).headFrame = some ⟨12, .hot ⟨12, 3⟩⟩ ∧
    ((withE5 (owned e5 .live)).seeing 12 (.cold ⟨12, 3⟩ .all)).headFrame =
      some ⟨12, .cold ⟨12, 3⟩ .all⟩ ∧ node.nodeState = .running := by decide +kernel

/-- A COLD step to throw `t` for E5 in state `st`. -/
def stepSeen (st : ElemState) (t : Throw) : State :=
  (withE5 (owned e5 st)).seeing 12 (.cold ⟨12, 3⟩ (.step 1 t))

theorem witness_ColdStepMovesHop :
    (∀ st ∈ [ElemState.set, .live, .fault, .claimed, .waiting, .moving, .verifying],
      ∀ t ∈ [(11 : Throw), 12, 2],
        (stepSeen st t).headFrame = some ⟨12, .cold ⟨12, 3⟩ (.step 1 t)⟩ ∧
        (stepSeen st t).nodeState = .running ∧ (stepSeen st t).restart = none ∧
        (stepSeen st t).txQueue.length < Config.txCapacity ∧
        ((stepSeen st t).elem 5).bind (fun x => x.owner.map (fun o => (o.handle, o.hop))) =
          some (⟨12, 3⟩, 1)) := by decide +kernel

/-- A RELEASE for E5, with the state it is in. -/
def releaseSeen (s : State) : State := s.seeing 12 (.release ⟨12, 3⟩ 14)

theorem witness_ReleaseFreesElements :
    (∀ s ∈ [claimed, moving, withE5 (owned e5 .set), withE5 { owned e5 .fault with faultLatch := true },
        withE5 { owned e5 .live with commanded := some 0 }],
      (releaseSeen s).headFrame = some ⟨12, .release ⟨12, 3⟩ 14⟩ ∧ (releaseSeen s).nodeState = .running ∧
        (releaseSeen s).arbiterSafe ∧ (releaseSeen s).statesSafe ∧ ¬(releaseSeen s).grantable) ∧
    ((withSlot (slotIn .releasing)).seeing 20 (.release own 14)).headFrame =
      some ⟨20, .release own 14⟩ := by
  refine ⟨fun s hs => ?_, by decide +kernel⟩
  rw [grantable_iff_check]
  have h : ∀ s ∈ [claimed, moving, withE5 (owned e5 .set),
      withE5 { owned e5 .fault with faultLatch := true },
      withE5 { owned e5 .live with commanded := some 0 }],
      (releaseSeen s).headFrame = some ⟨12, .release ⟨12, 3⟩ 14⟩ ∧ (releaseSeen s).nodeState = .running ∧
        arbiterOk (releaseSeen s) = true ∧ statesOk (releaseSeen s) = true ∧
        (releaseSeen s).moveQueue = [] := by decide +kernel
  obtain ⟨a, b, c, d, e⟩ := h s hs
  exact ⟨a, b, arbiterSafe_of_ok c, statesSafe_of_ok d, by simp [e]⟩

/-- The node as anchor and as last hop's node of its own path. -/
def scanSeen (st : SlotState) (S : ThrowSet) : State :=
  let o : Owner := ⟨own, 4, 2, false, none, 2, true⟩
  ((withSlot (slotIn st)).setElem 5 { owned e5 .set with throws := 8, owner := some o }).seeing 2
    (.scan own S 1 2)

theorem witness_ScanCreatesOrRefusesRecord :
    (∀ st ∈ [SlotState.hot, .collecting, .releasing], ∀ S ∈ [(0x055 : ThrowSet), 0, 2, 0x101],
      (scanSeen st S).headFrame = some ⟨2, .scan own S 1 2⟩ ∧ (scanSeen st S).nodeState = .running ∧
        (scanSeen st S).restart = none ∧ (scanSeen st S).txQueue.length + 2 ≤ Config.txCapacity) ∧
    ((scanSeen .hot 1).elem 5).bind (fun x => x.owner.map (fun o => o.handle == own && o.lastHop)) =
      some true ∧
    ((scanning .hot scan).seeing 33 (.hopstat own 4 .scanRefused 4 false)).headFrame =
      some ⟨33, .hopstat own 4 .scanRefused 4 false⟩ := by decide +kernel

theorem witness_LaneHoldReplacesMask :
    let s := released.seeing 2 (.laneHold ⟨false, 20⟩ 0x80)
    s.headFrame = some ⟨2, .laneHold ⟨false, 20⟩ 0x80⟩ ∧ s.nodeState = .running ∧
    s.address = 20 ∧ s.arbiterSafe :=
  ⟨by decide +kernel, by decide +kernel, by decide +kernel, arbiterSafe_of_ok (by decide +kernel)⟩

/-- A QUERY of every kind of subject, a REPORT that waits, one in arbitration, one being sent, and a full queue. -/
theorem witness_QueryIsAnsweredOrIgnored :
    (∀ t ∈ [Target.mk true 0, ⟨false, 20⟩, ⟨false, 21⟩],
      ∀ u ∈ [Subject.mk 0 0, ⟨1, 0⟩, ⟨2, 7⟩, ⟨2, 8⟩, ⟨3, 0⟩],
        (node.seeing 2 (.query t u)).headFrame = some ⟨2, .query t u⟩) ∧
    (∀ e : ElemNo, (node.elem e).isSome = true ↔ e.val < 0) ∧ node.roomFor 1 ∧
    (∀ ph ∈ [TxPhase.arbitrating none, .sending (.report ⟨0, 0⟩ [])],
      let s := State.seeing { offeringReport with txPhase := ph } 2 (.query ⟨true, 0⟩ ⟨2, 3⟩)
      s.headFrame = some ⟨2, .query ⟨true, 0⟩ ⟨2, 3⟩⟩ ∧ s.reportSlot.isSome = true ∧
        s.txQueue.any (fun y => y.inTransmission && y.item == .report) = true) ∧
    (∀ p, TxPhase.sending (.report ⟨0, 0⟩ []) ≠ .arbitrating p) ∧
    fullQueue.txQueue.length = Config.txCapacity ∧ fullQueue.restart = none ∧
    (withE5 e5).elem 5 = some e5 ∧ e5.wear ≤ 16777215 ∧ moving.arbiterSafe ∧
    (scanning .hot scan).slot 3 = { slotIn .hot with scan := some scan } :=
  ⟨by decide +kernel, by decide +kernel, node_roomFor, by decide +kernel, fun _ h => TxPhase.noConfusion h,
    by decide +kernel, by decide +kernel, by decide +kernel, by decide, arbiterSafe_of_ok (by decide +kernel),
    by decide +kernel⟩

theorem witness_ClearFaultEmptiesRecord :
    (∀ t ∈ [Target.mk true 0, ⟨false, 20⟩, ⟨false, 21⟩],
      (node.seeing 2 (.clearFault t)).headFrame = some ⟨2, .clearFault t⟩) := by decide +kernel

theorem witness_RestartBegins :
    (∀ t ∈ [Target.mk true 0, ⟨false, 20⟩, ⟨false, 21⟩],
      (node.seeing 2 (.restart t)).headFrame = some ⟨2, .restart t⟩) ∧
    fullQueue.txQueue.length ≤ Config.txCapacity ∧ node.txQueue.length ≤ Config.txCapacity := by
  decide +kernel

/-- A node in RESTARTING with the sequence `r`. -/
def midRestart (r : RestartSeq) : State :=
  { node with nodeState := .restarting, restartDrive := true, restart := some r }

theorem witness_RestartProceeds :
    (midRestart ⟨[.release own 18], [], false, []⟩).txQueue.length < Config.txCapacity ∧
    (midRestart ⟨[], [], false, []⟩).restart = some ⟨[], [], false, []⟩ ∧
    ((midRestart ⟨[], [.brk ⟨7, 1⟩], false, []⟩).seeing 20 (.brk ⟨7, 1⟩ 2 18)).headFrame =
      some ⟨node.address, .brk ⟨7, 1⟩ 2 18⟩ ∧
    ((midRestart ⟨[], [.brk ⟨7, 1⟩], false, [.brk ⟨7, 1⟩]⟩).seeing 20 (.brk ⟨7, 1⟩ 2 19)).headFrame =
      some ⟨node.address, .brk ⟨7, 1⟩ 2 19⟩ ∧
    ((midRestart ⟨[], [.release own], false, []⟩).seeing 20 (.release own 18)).headFrame =
      some ⟨node.address, .release own 18⟩ ∧ own.anchor = node.address := by decide +kernel

/-- The node of section 10.5 at its release step. -/
def ending : State := next .restartWithdrawalStep accounted

theorem witness_RestartEnds :
    ending.restart = some ⟨[], [], true, []⟩ ∧ ending.services = [] ∧ ending.arbiterSafe ∧
    ending.statesSafe ∧ ending.nodeState = .restarting ∧
    (ending.txQueue.filter (fun y => y.inTransmission)).length < Config.txCapacity ∧
    accounted.restart = some ⟨[], [], false, []⟩ :=
  ⟨by decide +kernel, by decide +kernel, arbiterSafe_of_ok (by decide +kernel),
    statesSafe_of_ok (by decide +kernel), by decide +kernel, by decide +kernel, by decide +kernel⟩

theorem witness_FrameRoundTrip :
    (Frame.cold own (.step 7 14)).fits ∧ (Frame.route own 1 15 true hops4).fits ∧
    (Frame.routeExt own hops4).fits ∧ (Frame.report ⟨2, 3⟩ (node.reportContent ⟨2, 3⟩)).fits :=
  ⟨by show (14 : Throw) ≠ 15; decide, by show hops4.length = _; decide,
    by show 1 ≤ hops4.length ∧ hops4.length ≤ 4; decide,
    Or.inr (Or.inr ⟨rfl, by decide +kernel⟩)⟩

/-- A node with a move in service, a HOT slot with a scan, a full table and a fault, and a command in its
queue. -/
def busy (c : Instr) : State :=
  { (moving.setSlot 3 { slotIn .hot with scan := some scan }).setGate 3 true with
    extTable := tableOf [3, 4, 5, 6], fault := ⟨some .stuck, none, none, 15⟩, pending := [c] }

theorem busy_arbiter (c : Instr) : (busy c).arbiterSafe := by
  have h : (busy .coilokFall).arbiterSafe := arbiterSafe_of_ok (by decide +kernel)
  exact ⟨h.1, h.2, h.3, h.4, h.5, h.6, h.7, h.8, h.9, h.10⟩

theorem busy_states (c : Instr) : (busy c).statesSafe :=
  have h : (busy .coilokFall).statesSafe := statesSafe_of_ok (by decide +kernel)
  fun e x hx => h e x hx

/-- A scan record of `busy` is the one of section 9.6. -/
theorem busy_scan (c : Instr) (g : Gate) (sc : Scan) (h : ((busy c).slot g).scan = some sc) : sc = scan := by
  have k : ∀ g, ∀ sc ∈ ((busy .coilokFall).slot g).scan, sc = scan := by decide +kernel
  exact k g sc h

/-- A node whose receive queue, transmit queue and extension table hold frames that fit. -/
def fitting : State :=
  { (busy .frameSeenRoute).seeing 9 (.route ⟨9, 5⟩ 1 4 false hops4) with
    txQueue := [⟨.frame (.cold own (.step 2 11)), false, false⟩], extTable := [⟨3, own, hops4⟩] }

theorem fitting_frames : fitting.framesSafe where
  received rx h := by
    obtain rfl : rx = ⟨9, .route ⟨9, 5⟩ 1 4 false hops4⟩ := by
      simpa [fitting, State.seeing, busy] using h
    exact (by decide : hops4.length = min 4 4)
  queued e h f k := by
    obtain rfl : e = ⟨.frame (.cold own (.step 2 11)), false, false⟩ := by simpa [fitting] using h
    cases k
    exact (by decide : (11 : Throw) ≠ 15)
  sending f h := by cases h
  waiting r h := by cases h
  subject u h := by cases h
  query u h := by cases h
  ext x h := by
    obtain rfl : x = ⟨3, own, hops4⟩ := by simpa [fitting] using h
    exact ⟨by decide, by decide⟩
  hops := by decide +kernel
  step g k h := by
    have n : ∀ g, (fitting.slot g).stepThrow = none := by decide +kernel
    simp [n g] at h

theorem witness_StepKeepsGatesAndSlots :
    (∃ t, step (busy (.triggerEdge 3)) = .next t) ∧
    (∀ g, (busy (.triggerEdge 3)).gate g = true →
      (busy (.triggerEdge 3)).nodeState = .running ∧ ((busy (.triggerEdge 3)).slot g).state = .hot) ∧
    (busy (.triggerEdge 3)).gate 3 = true ∧ ((busy (.triggerEdge 3)).slot 3).full = true ∧
    (∀ g, g ≠ 3 → (busy (.triggerEdge 3)).slot g = Slot.idle) ∧ (slotIn .hot).slotSafe ∧
    Slot.idle.slotSafe ∧ inSet scan.throws scan.current = true ∧
    (∃ t, step fitting = .next t) ∧ fitting.framesSafe :=
  ⟨⟨_, rfl⟩, by decide +kernel, by decide +kernel, by decide +kernel, by decide +kernel,
    ⟨by decide, by decide, by decide, by decide, by decide, by decide, by decide, by decide⟩,
    ⟨by decide, by decide, by decide, by decide, by decide, by decide, by decide, by decide⟩, by decide,
    ⟨_, rfl⟩, fitting_frames⟩

theorem witness_StepKeepsArbiterAndStates :
    (∃ t, step (busy (.cascadeFrontPulseEnd 0)) = .next t) ∧
    (busy (.cascadeFrontPulseEnd 0)).arbiterSafe ∧ (busy (.cascadeFrontPulseEnd 0)).statesSafe :=
  ⟨⟨_, rfl⟩, busy_arbiter _, busy_states _⟩

theorem witness_StepKeepsElementRecords :
    (∃ t, step (busy (.pulsingEnd 0)) = .next t) ∧ (busy (.pulsingEnd 0)).recordsSafe ∧
    (busy (.pulsingEnd 0)).controlsSafe := by
  refine ⟨⟨_, rfl⟩, forall_elem fun e x hx => ?_,
    ⟨fun e h => absurd (by decide +revert +kernel) h, fun h => absurd h (by decide +kernel)⟩⟩
  have h : ∀ e, ∀ x ∈ (busy (.pulsingEnd 0)).elem e, x = { e5 with
      state := .moving, owner := some (owner false), target := some 9, commanded := some 9 } := by
    decide +kernel
  rw [h e x hx]
  exact ⟨by decide, by decide, by decide +kernel, by decide, by decide, by decide,
    ⟨by decide, by decide, by decide, by decide⟩⟩

theorem witness_StepKeepsBoundsAndDrives :
    (∃ t, step (busy .coilokFall) = .next t) ∧ (busy .coilokFall).bounded ∧
    (busy .coilokFall).drivesSafe ∧ (busy .coilokFall).extensionsSafe :=
  ⟨⟨_, rfl⟩,
    ⟨by decide +kernel, by decide +kernel, by decide +kernel, by decide +kernel, by decide +kernel,
      by decide +kernel, by decide +kernel, fun g sc h => busy_scan _ g sc h ▸
        ⟨by decide, by decide, by decide, by decide, by decide⟩⟩,
    ⟨by decide +kernel, by decide +kernel, by decide +kernel⟩,
    fun h => absurd h (by decide +kernel)⟩

theorem witness_ExposedElementIsNotMoved :
    (exposed 0).arbiterSafe ∧ (exposed 0).statesSafe ∧
    (exposed 0).elem 5 = some (owned e5 .live) ∧ (owned e5 .live).exposed = true ∧
    (∃ t, exec (.senseGroupRead (contacts 2)) (exposed 0) = .next t ∧
      ∃ y ∈ t.elem 5, y.exposed = true) ∧
    (∀ p ∈ [(Instr.senseGroupRead (contacts 3), exposed 1), (.frameSeenCold, stepSeen .live 11),
        (.frameSeenRelease, releaseSeen (exposed 0)), (.resetLow, exposed 0)],
      (p.2.elem 5).any (·.exposed) = true ∧ arbiterOk p.2 = true ∧ statesOk p.2 = true ∧
        ((next p.1 p.2).elem 5).any (·.exposed) = false) :=
  ⟨arbiterSafe_of_ok (by decide +kernel), statesSafe_of_ok (by decide +kernel),
    by decide +kernel, by decide +kernel, ⟨_, rfl, by decide +kernel⟩, by decide +kernel⟩

theorem witness_FaultRecordStaysLocked :
    (busy .coilokFall).fault.kind = some .stuck ∧ (busy .coilokFall).bounded ∧
    (∃ t, exec .coilokFall (busy .coilokFall) = .next t) :=
  ⟨by decide +kernel, witness_StepKeepsBoundsAndDrives.2.1, ⟨_, rfl⟩⟩

theorem witness_NodeStateChangesAsGiven :
    reading.drivesSafe ∧ (next (.imageReadDone image) reading).nodeState ≠ reading.nodeState ∧
    (next (.imageReadDone (image.set 32 0)) reading).drivesSafe ∧
    (next (.imageReadDone (image.set 32 0)) reading).nodeState = .configFault :=
  ⟨⟨by decide +kernel, by decide +kernel, by decide +kernel⟩, by decide +kernel,
    ⟨by decide +kernel, by decide +kernel, by decide +kernel⟩, by decide +kernel⟩

theorem witness_StepLeavesNothingToStart :
    (busy .coilokFall).arbiterSafe ∧ (busy .coilokFall).statesSafe ∧ ¬(busy .coilokFall).grantable ∧
    ¬(busy .coilokFall).startable ∧ seeding.arbiterSafe ∧ seeding.statesSafe ∧ ¬seeding.grantable ∧
    ¬seeding.startable ∧ (next (.senseGroupRead (contacts 2)) seeding).nodeState = .running := by
  simp only [grantable_iff_check, startable_iff_check]
  exact ⟨busy_arbiter _, busy_states _, by decide +kernel, by decide +kernel,
    arbiterSafe_of_ok (by decide +kernel), statesSafe_of_ok (by decide +kernel), by decide +kernel⟩

end Tests

end Sys2Proof.Machine
end

section
/-!
PROOFS. Move timing (R26 to R30): the pulse count of a move, the sum of R28 and its clamps, and the time
its channel is PULSING, from class figures within their ranges.
-/

namespace Sys2Proof.Machine

/-! ### The pulse count (R26) -/

theorem Element.pulseCount_of_solidState {x : Element} (h : x.cls = .solidState) (t : Throw) :
    x.pulseCount t = 0 := by
  simp [Element.pulseCount, h]

theorem Element.pulseCount_of_failsafe {x : Element} (h : x.cls = .failsafe) (t : Throw) :
    x.pulseCount t = if t = 0 then 0 else 1 := by
  simp [Element.pulseCount, h]

theorem Element.pulseCount_of_latching {x : Element} (h : x.cls = .latching) (t : Throw) :
    x.pulseCount t = if x.cascaded = true ∧ x.half ≠ halfOf x.throws t then 2 else 1 := by
  simp [Element.pulseCount, h]

/-- The pulse counts there are, and the elements that have them. -/
theorem Element.pulseCount_cases (x : Element) (t : Throw) :
    x.pulseCount t = 0 ∨ x.pulseCount t = 1 ∧ x.cls ≠ .solidState ∨
      x.pulseCount t = 2 ∧ x.cls = .latching ∧ x.cascaded = true := by
  cases h : x.cls with
  | solidState => exact .inl (pulseCount_of_solidState h t)
  | failsafe =>
    rw [pulseCount_of_failsafe h]
    split
    · exact .inl rfl
    · exact .inr (.inl ⟨rfl, nofun⟩)
  | latching =>
    rw [pulseCount_of_latching h]
    split
    next hc => exact .inr (.inr ⟨rfl, rfl, hc.1⟩)
    next => exact .inr (.inl ⟨rfl, nofun⟩)

/-! ### The class figures (R27) -/

/-- The figures of each class lie in their ranges; class S has no pulse width. -/
structure ImageConfig.classFiguresSafe (cfg : ImageConfig) : Prop where
  width    : ∀ c, pulseWidth cfg c ≤ 250
  widthPos : ∀ c, c ≠ .solidState → 1 ≤ pulseWidth cfg c
  settle   : ∀ c, settleBase cfg c ≤ 250

theorem ImageConfig.classFiguresSafe_of_ranges {cfg : ImageConfig}
    (pL : 1 ≤ cfg.pL ∧ cfg.pL ≤ 250) (pF : 1 ≤ cfg.pF ∧ cfg.pF ≤ 250)
    (settle : cfg.sL ≤ 250 ∧ cfg.sF ≤ 250 ∧ cfg.sS ≤ 250) : cfg.classFiguresSafe where
  width
    | .latching => pL.2
    | .failsafe => pF.2
    | .solidState => Nat.zero_le _
  widthPos
    | .latching, _ => pL.1
    | .failsafe, _ => pF.1
    | .solidState, h => absurd rfl h
  settle
    | .latching => settle.1
    | .failsafe => settle.2.1
    | .solidState => settle.2.2

/-! ### The time of PULSING and the move duration (R28, R30) -/

@[simp] theorem pulsingUnits_zero (cfg : ImageConfig) (c : ElemClass) : pulsingUnits cfg c 0 = 0 := by
  simp [pulsingUnits, cascadeGap]

@[simp] theorem pulsingUnits_one (cfg : ImageConfig) (c : ElemClass) :
    pulsingUnits cfg c 1 = pulseWidth cfg c := by
  simp [pulsingUnits, cascadeGap]

@[simp] theorem pulsingUnits_two (cfg : ImageConfig) (c : ElemClass) :
    pulsingUnits cfg c 2 = 2 * pulseWidth cfg c + 5 := rfl

/-- The sum of R28, before its clamps. -/
def moveSum (cfg : ImageConfig) (x : Element) (pulses : Nat) : Nat :=
  pulsingUnits cfg x.cls pulses + (if x.retry = true then 2 else 1) * settleBase cfg x.cls

theorem moveDuration_eq_clamp (cfg : ImageConfig) (x : Element) (n : Nat) :
    moveDuration cfg x n =
      if moveSum cfg x n < 1 then 1 else if 1000 < moveSum cfg x n then 1000 else moveSum cfg x n := by
  have h : moveDuration cfg x n = max 1 (min 1000 (moveSum cfg x n)) := rfl
  split_ifs <;> omega

theorem moveDuration_range (cfg : ImageConfig) (x : Element) (n : Nat) :
    1 ≤ moveDuration cfg x n ∧ moveDuration cfg x n ≤ 1000 := by
  rw [moveDuration_eq_clamp]
  split_ifs <;> omega

/-- The settle part of the sum counts the settle base once, and twice for a retry. -/
theorem moveSum_cases (cfg : ImageConfig) (x : Element) (n : Nat) :
    x.retry = false ∧ moveSum cfg x n = pulsingUnits cfg x.cls n + settleBase cfg x.cls ∨
      x.retry = true ∧ moveSum cfg x n = pulsingUnits cfg x.cls n + 2 * settleBase cfg x.cls := by
  cases h : x.retry <;> simp [moveSum, h]

theorem pulsingUnits_le_moveDuration {cfg : ImageConfig} {x : Element} {n : Nat}
    (h : pulsingUnits cfg x.cls n ≤ 1000) : pulsingUnits cfg x.cls n ≤ moveDuration cfg x n := by
  have hsum : pulsingUnits cfg x.cls n ≤ moveSum cfg x n := Nat.le_add_right _ _
  rw [moveDuration_eq_clamp]
  split_ifs <;> omega

section
variable {cfg : ImageConfig} (hc : cfg.classFiguresSafe) (x : Element) (t : Throw)
include hc

/-- The time of PULSING by the pulse count: 0 without pulses, one pulse width, or two and the gap (R30). -/
theorem pulsingUnits_pulseCount_cases :
    x.pulseCount t = 0 ∧ pulsingUnits cfg x.cls (x.pulseCount t) = 0 ∨
      1 ≤ pulsingUnits cfg x.cls (x.pulseCount t) ∧
        pulsingUnits cfg x.cls (x.pulseCount t) ≤ 250 ∨
      x.cls = .latching ∧ x.cascaded = true ∧
        pulsingUnits cfg x.cls (x.pulseCount t) = 2 * pulseWidth cfg x.cls + 5 := by
  obtain h | ⟨h, hcls⟩ | ⟨h, hcls, hcasc⟩ := x.pulseCount_cases t <;> rw [h]
  · exact .inl ⟨rfl, pulsingUnits_zero _ _⟩
  · rw [pulsingUnits_one]
    exact .inr (.inl ⟨hc.widthPos _ hcls, hc.width _⟩)
  · exact .inr (.inr ⟨hcls, hcasc, pulsingUnits_two _ _⟩)

theorem pulsingUnits_pulseCount_le : pulsingUnits cfg x.cls (x.pulseCount t) ≤ 505 := by
  have hwidth := hc.width x.cls
  obtain ⟨-, h⟩ | ⟨-, h⟩ | ⟨-, -, h⟩ := pulsingUnits_pulseCount_cases hc x t <;> omega

theorem moveSum_pulseCount_le : moveSum cfg x (x.pulseCount t) ≤ 1005 := by
  have hpulsing := pulsingUnits_pulseCount_le hc x t
  have hsettle := hc.settle x.cls
  obtain ⟨-, h⟩ | ⟨-, h⟩ := moveSum_cases cfg x (x.pulseCount t) <;> omega

/-- The lower clamp of R28 is for a move without pulses and a settle base of 0 only. -/
theorem pulseCount_and_settleBase_eq_zero_of_moveSum (h : moveSum cfg x (x.pulseCount t) < 1) :
    x.pulseCount t = 0 ∧ settleBase cfg x.cls = 0 := by
  have hsettle : settleBase cfg x.cls = 0 := by
    obtain ⟨-, hsum⟩ | ⟨-, hsum⟩ := moveSum_cases cfg x (x.pulseCount t) <;> omega
  have hpulsing : pulsingUnits cfg x.cls (x.pulseCount t) < 1 :=
    Nat.lt_of_le_of_lt (Nat.le_add_right _ _) h
  obtain ⟨hn, -⟩ | ⟨hpos, -⟩ | ⟨-, -, htwo⟩ := pulsingUnits_pulseCount_cases hc x t
  · exact ⟨hn, hsettle⟩
  · omega
  · omega

/-- The largest sum of R28 is that of a cascaded L element's retry with both figures at their largest. -/
theorem cascaded_retry_of_moveSum_eq (h : moveSum cfg x (x.pulseCount t) = 1005) :
    x.cls = .latching ∧ x.cascaded = true ∧ x.retry = true ∧ pulseWidth cfg x.cls = 250 ∧
      settleBase cfg x.cls = 250 := by
  have hwidth := hc.width x.cls
  have hsettle := hc.settle x.cls
  have hpulsing := pulsingUnits_pulseCount_le hc x t
  obtain ⟨-, hsum⟩ | ⟨hretry, hsum⟩ := moveSum_cases cfg x (x.pulseCount t)
  · omega
  · obtain ⟨-, hzero⟩ | ⟨-, hone⟩ | ⟨hcls, hcasc, htwo⟩ := pulsingUnits_pulseCount_cases hc x t
    · omega
    · omega
    · exact ⟨hcls, hcasc, hretry, by omega, by omega⟩

end

/-! ### The start of a move -/

/-- A move's service record takes the pulse count and the move duration of its start (R25). -/
theorem State.startMove_services {s : State} {m : MoveEntry} {x : Element}
    (hx : s.elem m.elem = some x) (ch : Option ChannelNo) :
    (s.startMove m ch).services = s.services ++ [⟨m.elem, m.target, m.lane, x.pulseCount m.target,
      moveDuration s.config x (x.pulseCount m.target), ch,
      moveDuration s.config x (x.pulseCount m.target)⟩] := by
  cases ch with
  | none => rw [State.startMove_none hx]
  | some c => rw [State.startMove_some hx]

/-- Settles O14: R26's table is the equation of each class. -/
theorem pulseCountOfMove : Obligations.PulseCountOfMove := by
  refine ⟨fun x t c => ⟨fun hS => ?_, fun hF ht => ?_, fun hF ht => ?_, fun hL hc => ?_,
    fun hL hc hh => ?_, fun hL hc hh => ?_, rfl⟩, fun s m ch x hx => ⟨_, s.startMove_services hx ch⟩⟩
  · exact Element.pulseCount_of_solidState hS t
  · rw [Element.pulseCount_of_failsafe hF, if_pos ht]
  · rw [Element.pulseCount_of_failsafe hF, if_neg ht]
  · rw [Element.pulseCount_of_latching hL, if_neg (by simp [hc])]
  · rw [Element.pulseCount_of_latching hL, if_neg fun h => h.2 hh]
  · rw [Element.pulseCount_of_latching hL, if_pos ⟨hc, hh⟩]

/-- Settles O15: the sum of R28 is that of the pulses and the settle part, and the pulse count says by which
move each bound is reached. -/
theorem moveDurationOfMove : Obligations.MoveDurationOfMove := by
  intro s m ch x hx hpL hpL' hsL hpF hpF' hsF hsS n p q pulsing sum d
  have hc := ImageConfig.classFiguresSafe_of_ranges ⟨hpL, hpL'⟩ ⟨hpF, hpF'⟩ ⟨hsL, hsF, hsS⟩
  have hd : moveDuration s.config x n = d := moveDuration_eq_clamp s.config x n
  have hpulsing : pulsing ≤ 505 := pulsingUnits_pulseCount_le hc x m.target
  obtain ⟨hpos, hmax⟩ := moveDuration_range s.config x n
  have hends : pulsing ≤ moveDuration s.config x n :=
    pulsingUnits_le_moveDuration (Nat.le_trans hpulsing (by decide))
  rw [← hd]
  exact ⟨s.startMove_services hx ch, hpos, hmax,
    pulseCount_and_settleBase_eq_zero_of_moveSum hc x m.target, moveSum_pulseCount_le hc x m.target,
    cascaded_retry_of_moveSum_eq hc x m.target, hpulsing, hends⟩

end Sys2Proof.Machine
end

section
/-!
PROOFS. The drive arbiter: the lane priority order (R44), the arbiter's choice and one grant (R39, R42), and
what a change of COILOK does (R51, R52).
-/

namespace Sys2Proof.Machine

/-! ### The lane priority order (R44) -/

theorem mem_laneOrder (head k : Lane) : k ∈ laneOrder head := by
  decide +revert

/-- The lane priority order lists the lanes by rank, the highest first. -/
theorem laneOrder_pairwise_laneRank (head : Lane) :
    (laneOrder head).Pairwise (laneRank head · < laneRank head ·) := by
  decide +revert

/-! ### The arbiter's choice (R39, R42) -/

theorem State.idleChannel_isSome {s : State} (h : ∃ c, s.channel c = .idle) :
    ∃ c, s.idleChannel = some c := by
  obtain ⟨c, hc⟩ := h
  exact Option.isSome_iff_exists.1 (List.find?_isSome.2 ⟨c, mem_allChannels c, by simp [hc]⟩)

theorem State.channel_of_idleChannel {s : State} {c : ChannelNo} (h : s.idleChannel = some c) :
    s.channel c = .idle := by
  simpa using List.find?_some h

/-- There is a choice where a move that needs a channel is pending in a lane that is not held. -/
theorem State.grantChoice_isSome {s : State} {m : MoveEntry} (hm : m ∈ s.moveQueue)
    (hneeds : m.needsChannel = true) (hheld : laneHeld s.laneHold m.lane = false) :
    ∃ m', s.grantChoice = some m' := by
  refine Option.isSome_iff_exists.1
    (List.findSome?_isSome_iff.2 ⟨m.lane, mem_laneOrder s.orderHead m.lane, ?_⟩)
  rw [hheld]
  exact List.find?_isSome.2 ⟨m, hm, by simp [hneeds]⟩

/-- The choice stands in a lane that is not held, no lane before it in the priority order has a move that may be
granted, and in its own lane it is the first such move. -/
theorem State.grantChoice_split {s : State} {m : MoveEntry} (h : s.grantChoice = some m) :
    ∃ above below, laneOrder s.orderHead = above ++ m.lane :: below ∧
      s.moveQueue.find? (fun m' => m'.lane == m.lane && m'.needsChannel) = some m ∧
      ∀ m' ∈ s.moveQueue, m'.needsChannel = true → laneHeld s.laneHold m'.lane = false →
        m'.lane ∉ above := by
  obtain ⟨above, k, below, horder, hk, habove⟩ := List.findSome?_eq_some_iff.1 h
  split at hk
  · simp at hk
  · have hlane : m.lane = k ∧ m.needsChannel = true := by simpa using List.find?_some hk
    obtain ⟨rfl, -⟩ := hlane
    refine ⟨above, below, horder, hk, fun m' hm' hneeds hheld hmem => ?_⟩
    have hnone := habove m'.lane hmem
    rw [hheld] at hnone
    exact List.find?_eq_none.1 hnone m' hm' (by simp [hneeds])

/-- The place of the choice in arrival order, and the lanes and places of the moves it is preferred to (R42). -/
theorem State.grantChoice_first {s : State} {m : MoveEntry} (h : s.grantChoice = some m) :
    ∃ i : Nat, s.moveQueue[i]? = some m ∧
      ∀ (j : Nat) (m' : MoveEntry), s.moveQueue[j]? = some m' → m'.needsChannel = true →
        laneHeld s.laneHold m'.lane = false →
        laneRank s.orderHead m.lane < laneRank s.orderHead m'.lane ∨ m.lane = m'.lane ∧ i ≤ j := by
  obtain ⟨above, below, horder, hfind, habove⟩ := State.grantChoice_split h
  obtain ⟨-, i, hi, rfl, hfirst⟩ := List.find?_eq_some_iff_getElem.1 hfind
  refine ⟨i, List.getElem?_eq_getElem hi, fun j m' hj hneeds hheld => ?_⟩
  have hmem : m'.lane ∈ above ++ s.moveQueue[i].lane :: below := horder ▸ mem_laneOrder _ _
  rcases List.mem_append.1 hmem with hin | hin
  · exact absurd hin (habove m' (List.mem_of_getElem? hj) hneeds hheld)
  rcases List.mem_cons.1 hin with hsame | hbelow
  · refine .inr ⟨hsame.symm, Nat.le_of_not_lt fun hlt => ?_⟩
    obtain ⟨hj', rfl⟩ := List.getElem?_eq_some_iff.1 hj
    simpa [hsame, hneeds] using hfirst j hlt
  · have hsorted := laneOrder_pairwise_laneRank s.orderHead
    rw [horder] at hsorted
    exact .inl (List.rel_of_pairwise_cons (List.pairwise_append.1 hsorted).2.1 hbelow)

/-! ### One grant (R42) -/

/-- Where no two entries share a key, dropping those with the key of one entry drops that entry alone. -/
theorem filter_bne_eq_eraseIdx {α β : Type} [DecidableEq β] (key : α → β) {a : α} :
    ∀ {l : List α} {i : Nat}, (l.map key).Nodup → l[i]? = some a →
      l.filter (fun b => key b != key a) = l.eraseIdx i
  | b :: l, 0, hnodup, hi => by
    obtain rfl : b = a := by simpa using hi
    obtain ⟨hb, -⟩ := List.nodup_cons.1 hnodup
    have hne : ∀ c ∈ l, key c ≠ key b := fun c hc heq => hb (heq ▸ List.mem_map_of_mem hc)
    simpa using hne
  | b :: l, i + 1, hnodup, hi => by
    obtain ⟨hb, hnodup'⟩ := List.nodup_cons.1 hnodup
    have hi' : l[i]? = some a := by simpa using hi
    have hne : key b ≠ key a := fun heq => hb (heq ▸ List.mem_map_of_mem (List.mem_of_getElem? hi'))
    rw [List.filter_cons_of_pos (by simpa using hne), filter_bne_eq_eraseIdx key hnodup' hi',
      List.eraseIdx_cons_succ]

/-- The start of a move on a channel commands the element, and leaves the rest of its record for the end of
PULSING. -/
theorem Element.startMove_of_needsChannel {x : Element} {t : Throw} (h : needsChannel x.cls t = true)
    (cfg : ImageConfig) :
    x.startMove cfg t = { x with
      commanded := some t, state := if x.state = .waiting then .moving else x.state } := by
  cases hc : x.cls with
  | latching => simp [Element.startMove, hc]
  | failsafe =>
    have ht : t ≠ 0 := by simpa [needsChannel, hc] using h
    simp [Element.startMove, hc, ht]
  | solidState => simp [needsChannel, hc] at h

/-- The start on a channel of the pending move at a place of the arrival order. -/
theorem State.startMove_of_arbiterSafe {s : State} (hs : s.arbiterSafe) {i : Nat} {m : MoveEntry}
    (hi : s.moveQueue[i]? = some m) (hneeds : m.needsChannel = true) {x : Element}
    (hx : s.elem m.elem = some x) (c : ChannelNo) :
    s.startMove m (some c) = { s with
      moveQueue := s.moveQueue.eraseIdx i
      elems := s.elems.set m.elem (some { x with
        commanded := some m.target, state := if x.state = .waiting then .moving else x.state })
      services := s.services ++ [⟨m.elem, m.target, m.lane, x.pulseCount m.target,
        moveDuration s.config x (x.pulseCount m.target), some c,
        moveDuration s.config x (x.pulseCount m.target)⟩]
      channels := s.channels.set c (.pulsing m.elem m.target m.lane (x.pulseCount m.target)
        (firstPhase (x.pulseCount m.target))
        (pulsingUnits s.config x.cls (x.pulseCount m.target))) } := by
  have hmarked : needsChannel x.cls m.target = true :=
    hs.marked m (List.mem_of_getElem? hi) x hx ▸ hneeds
  have hcls : x.cls ≠ .solidState := fun h => by simp [needsChannel, h] at hmarked
  rw [State.startMove_some hx, Element.startMove_of_needsChannel hmarked, if_neg hcls,
    filter_bne_eq_eraseIdx MoveEntry.elem (List.nodup_append.1 hs.one).1 hi]

/-- Settles O16: the arbiter's choice is the first in lane order and arrival order, and it starts on an IDLE
channel. -/
theorem grantTakesHighestLaneEarliest : Obligations.GrantTakesHighestLaneEarliest := by
  rintro s hs ⟨hrunning, hcoil, hidle, m₀, hm₀, hneeds₀, hheld₀⟩
  obtain ⟨c, hc⟩ := State.idleChannel_isSome hidle
  obtain ⟨m, hm⟩ := State.grantChoice_isSome hm₀ hneeds₀ hheld₀
  obtain ⟨hmem, hneeds, hheld⟩ := State.grantChoice_mem hm
  obtain ⟨i, hi, hfirst⟩ := State.grantChoice_first hm
  obtain ⟨x, hx, -⟩ := hs.pend m.elem (List.any_eq_true.2 ⟨m, hmem, beq_self_eq_true _⟩)
  refine ⟨i, m, c, x, hi, hneeds, hheld, hfirst, State.channel_of_idleChannel hc, hx, ?_⟩
  rw [State.grantOne_of hrunning hcoil hc hm, State.startMove_of_arbiterSafe hs hi hneeds hx]
  rfl

/-! ### COILOK (R51, R52) -/

theorem exec_coilokRise (s : State) : exec .coilokRise s = .next ({ s with coilOk := true }).grants := rfl

/-- A fall with a channel PULSING captures SupplyLost. -/
theorem exec_coilokFall_of_pulsing {s : State} (hcoil : s.coilOk = true)
    (h : ∃ c, (s.channel c).isPulsing = true) :
    exec .coilokFall s = .next (({ s with coilOk := false }).capture .supplyLost none none) := by
  obtain ⟨c, hc⟩ := h
  have hany : allChannels.any (fun c => (s.channel c).isPulsing) = true :=
    List.any_eq_true.2 ⟨c, mem_allChannels c, hc⟩
  exact (if_pos hcoil).trans (congrArg _ (if_pos hany))

/-- A fall with no channel PULSING captures nothing. -/
theorem exec_coilokFall_of_not_pulsing {s : State} (hcoil : s.coilOk = true)
    (h : ∀ c, (s.channel c).isPulsing = false) :
    exec .coilokFall s = .next { s with coilOk := false } := by
  have hany : ¬allChannels.any (fun c => (s.channel c).isPulsing) = true := by simp [h]
  exact (if_pos hcoil).trans (congrArg _ (if_neg hany))

/-- A first capture fills the record; beside it only the queue of its NOTICE, the count of drops and the
teardown frames that wait can change (R155, R88, R159). -/
theorem State.capture_first {s : State} (hk : s.fault.kind = none) (k : FaultKind)
    (loc : Option ElemNo) (h : Option Handle) :
    s.capture k loc h = { s with
      fault := ⟨some k, loc, h, 0⟩, txQueue := (s.capture k loc h).txQueue
      txDrops := (s.capture k loc h).txDrops, restart := (s.capture k loc h).restart } := by
  have hfault := s.capture_fault k loc h
  have hbreaks := s.capture_breaksOut k loc h
  have hreport := s.capture_reportSlot k loc h
  obtain ⟨q, d, rs, fl, b, r, heq⟩ := s.capture_touches k loc h
  rw [heq] at hfault hbreaks hreport ⊢
  simp only [hk] at hfault hbreaks hreport
  subst hfault hbreaks hreport
  rfl

/-- A first capture with room in the transmit queue queues its NOTICE (R155). -/
theorem State.capture_first_of_room {s : State} {n : Nat} (hroom : s.roomFor (n + 1))
    (hk : s.fault.kind = none) (k : FaultKind) (loc : Option ElemNo) (h : Option Handle) :
    s.capture k loc h = { s with
      fault := ⟨some k, loc, h, 0⟩
      txQueue := s.txQueue ++
        [TxEntry.new (.frame (.notice .faultCaptured none (BitVec.ofNat 5 k.code)))] } := by
  rw [State.capture_of_none hk]
  exact State.enqueueLast_of_room (s := { s with fault := ⟨some k, loc, h, 0⟩ })
    ⟨hroom.noneWaits, hroom.room⟩ _

/-- Settles O20: what a fall captures is a capture of SupplyLost, in each case of R155, and the grants of a
rise touch the arbiter only. -/
theorem coilFallCapturesSupplyLost : Obligations.CoilFallCapturesSupplyLost := by
  refine fun s => ⟨fun hcoil => ⟨exec_coilokFall_of_not_pulsing hcoil,
    fun hpulsing hroom hnone => ?room, fun hpulsing hsome => ?counted,
    fun hpulsing hnone => ⟨_, exec_coilokFall_of_pulsing hcoil hpulsing, ?first⟩⟩,
    _, exec_coilokRise s, ?rise⟩
  case room =>
    have hroom' : ({ s with coilOk := false } : State).roomFor 1 := ⟨hroom.noneWaits, hroom.room⟩
    rw [exec_coilokFall_of_pulsing hcoil hpulsing]
    exact congrArg _ (State.capture_first_of_room hroom' hnone _ _ _)
  case counted =>
    obtain ⟨k, hk⟩ := Option.isSome_iff_exists.1 hsome
    rw [exec_coilokFall_of_pulsing hcoil hpulsing]
    exact congrArg _ (State.capture_of_some (s := { s with coilOk := false }) hk _ _ _)
  case first => exact State.capture_first (s := { s with coilOk := false }) hnone _ _ _
  case rise =>
    have htouched := ({ s with coilOk := true } : State).grants_touches
    exact ⟨htouched.coilOk, htouched.fault, htouched.txQueue⟩

end Sys2Proof.Machine
end

section
/-!
PROOFS. The extension table (R90): where a filed extension stands, which entries it displaces, and the bounds
of the table.
-/

namespace Sys2Proof.Machine

/-! ### One filing (R90) -/

section

variable {table : List ExtEntry} {x : ExtEntry}

/-- Where the sender has an entry, dropping it leaves room whatever the table's fill. -/
theorem fileExtension_of_mem (hmem : x.sender ∈ table.map (·.sender))
    (hlen : table.length ≤ Config.extCapacity) :
    fileExtension table x = table.filter (fun y => y.sender != x.sender) ++ [x] := by
  obtain ⟨y, hy, hsender⟩ := List.mem_map.1 hmem
  have hshorter : (table.filter (fun y => y.sender != x.sender)).length < table.length :=
    List.length_filter_lt_length_iff_exists.2 ⟨y, hy, by simp [hsender]⟩
  rw [fileExtension, if_pos (Nat.lt_of_lt_of_le hshorter hlen)]

/-- Where the sender has no entry, no entry goes for being its own. -/
theorem filter_sender_of_not_mem (hmem : x.sender ∉ table.map (·.sender)) :
    table.filter (fun y => y.sender != x.sender) = table :=
  List.filter_eq_self.2 fun y hy => bne_iff_ne.2 fun hsame =>
    hmem (List.mem_map.2 ⟨y, hy, hsame⟩)

theorem fileExtension_of_free (hmem : x.sender ∉ table.map (·.sender))
    (hlen : table.length < Config.extCapacity) : fileExtension table x = table ++ [x] := by
  rw [fileExtension, filter_sender_of_not_mem hmem, if_pos hlen]

/-- The oldest entry is the first. -/
theorem fileExtension_of_full (hmem : x.sender ∉ table.map (·.sender))
    (hlen : table.length = Config.extCapacity) : fileExtension table x = table.tail ++ [x] := by
  rw [fileExtension, filter_sender_of_not_mem hmem, if_neg (Nat.not_lt_of_le hlen.ge), List.drop_one]

/-! ### The bounds of the table (R90) -/

variable (table x) in
/-- The entries that stay are old ones of other senders, in their old order. -/
theorem fileExtension_eq_append : ∃ kept : List ExtEntry,
    kept.Sublist (table.filter (fun y => y.sender != x.sender)) ∧
      fileExtension table x = kept ++ [x] := by
  simp only [fileExtension]
  split
  · exact ⟨_, List.Sublist.refl _, rfl⟩
  · exact ⟨_, List.drop_sublist 1 _, rfl⟩

theorem fileExtension_length_le (hlen : table.length ≤ Config.extCapacity) :
    (fileExtension table x).length ≤ Config.extCapacity := by
  have hpos : 0 < Config.extCapacity := by decide
  have hothers := List.length_filter_le (fun y => y.sender != x.sender) table
  simp only [fileExtension, List.length_append, List.length_singleton]
  split
  next hroom => exact hroom
  next => rw [List.length_drop]; omega

/-- The entries kept have each its own sender, none of them that of the frame. -/
theorem fileExtension_senders_nodup (hnodup : (table.map (·.sender)).Nodup) :
    ((fileExtension table x).map (·.sender)).Nodup := by
  obtain ⟨kept, hkept, heq⟩ := fileExtension_eq_append table x
  have hother : ∀ y ∈ kept, y.sender ≠ x.sender := fun y hy =>
    bne_iff_ne.1 (List.mem_filter.1 (hkept.subset hy)).2
  have hold : (kept.map (·.sender)).Nodup :=
    hnodup.sublist ((hkept.trans List.filter_sublist).map _)
  rw [heq, List.map_append, List.map_singleton, ← List.concat_eq_append]
  exact hold.concat (by simpa using hother)

end

/-! ### FRAME_SEEN_ROUTE_EXT -/

/-- The command takes the frame and files it, and changes nothing beside the two. -/
theorem exec_frameSeenRouteExt_of_headFrame {s : State} {a : Address} {h : Handle} {hops : List Hop}
    (hhead : s.headFrame = some ⟨a, .routeExt h hops⟩) :
    exec .frameSeenRouteExt s = .next { s with
      rxQueue := s.rxQueue.tail, extTable := fileExtension s.extTable ⟨a, h, hops⟩ } := by
  change execFrameSeenRouteExt s = _
  rw [execFrameSeenRouteExt, hhead]
  rfl

/-- Settles O33: the three cases of R90 are those of one filing, which keeps the bounds of the table. -/
theorem extensionIsFiled : Obligations.ExtensionIsFiled :=
  fun _ _ _ _ hhead hlen hnodup =>
    ⟨_, exec_frameSeenRouteExt_of_headFrame hhead, rfl, fun hmem => fileExtension_of_mem hmem hlen,
      fun hmem hfree => fileExtension_of_free hmem hfree, fun hmem hfull => fileExtension_of_full hmem hfull,
      fileExtension_length_le hlen, fileExtension_senders_nodup hnodup⟩

end Sys2Proof.Machine
end

section
/-!
PROOFS. CLEARFAULT (R156): what it makes of one element, and of the state of a node that obeys it.
-/

namespace Sys2Proof.Machine

/-! ### One element (R20) -/

/-- A FAULT element without owner leaves FAULT for FREE. -/
theorem Element.clearFault_of_ownerless {x : Element} (h : x.state = .fault ∧ x.owner = none) :
    x.clearFault = { x.toFree with
      faultLatch := false, commanded := x.sensed.valid, half := x.halfFrom x.sensed } :=
  if_pos ⟨h.1, Option.isNone_iff_eq_none.2 h.2⟩

/-- An element in another state, or with an owner, loses its latch only. -/
theorem Element.clearFault_of_not_ownerless {x : Element} (h : ¬(x.state = .fault ∧ x.owner = none)) :
    x.clearFault = { x with faultLatch := false } :=
  if_neg fun ⟨hstate, howner⟩ => h ⟨hstate, Option.isNone_iff_eq_none.1 howner⟩

/-! ### The node (R156) -/

theorem State.obeys_iff {s : State} {t : Target} :
    s.obeys t = true ↔ s.nodeState = .running ∧ (t.all = true ∨ t.address = s.address) := by
  simp [State.obeys, State.addressedBy]

theorem State.elem_clearFaults (s : State) (e : ElemNo) :
    s.clearFaults.elem e = (s.elem e).map Element.clearFault := by
  rw [← s.elem_forAll]
  exact State.elem_congr (by rw [State.clearFaults]) e

/-- The element table and the fault record are all that is touched. -/
theorem State.clearFaults_eq (s : State) :
    s.clearFaults = { s with elems := s.clearFaults.elems, fault := .empty } := by
  obtain ⟨v, hv⟩ := s.forElems_modElem_touches allElems Element.clearFault
  rw [State.clearFaults, hv]

@[simp] theorem State.clearFaults_faultOutput (s : State) : s.clearFaults.faultOutput = false := rfl

/-- The command takes the frame, and clears the faults of a node that obeys it. -/
theorem exec_frameSeenClearfault_of_headFrame {s : State} {a : Address} {target : Target}
    (hhead : s.headFrame = some ⟨a, .clearFault target⟩) :
    exec .frameSeenClearfault s =
      .next (if s.obeys target then s.popFrame.clearFaults else s.popFrame) := by
  change execFrameSeenClearfault s = _
  rw [execFrameSeenClearfault, hhead]

/-- Settles O48: a node that does not obey takes the frame only; at one that obeys, each element changes as its
own case of R20 says. -/
theorem clearFaultEmptiesRecord : Obligations.ClearFaultEmptiesRecord := by
  intro s a target hhead u acts
  refine ⟨_, exec_frameSeenClearfault_of_headFrame hhead, fun hnot => ?ignored, fun hacts => ?obeyed⟩
  case ignored => exact if_neg fun hobeys => hnot (State.obeys_iff.1 hobeys)
  case obeyed =>
    rw [if_pos (State.obeys_iff.2 hacts)]
    refine ⟨s.popFrame.clearFaults_eq, State.clearFaults_faultOutput _, fun e => ?_⟩
    rw [State.elem_clearFaults]
    refine Option.map_congr fun x _ => ?_
    by_cases hx : x.state = .fault ∧ x.owner = none
    · rw [Element.clearFault_of_ownerless hx, if_pos hx]
      rfl
    · rw [Element.clearFault_of_not_ownerless hx, if_neg hx]

end Sys2Proof.Machine
end

section
/-!
PROOFS. The node state (R164): what each shared operation and each command makes of it, the commands that can
change it, and how a node report shows it.
-/

namespace Sys2Proof.Machine

/-! ### Shared operations leave the node state -/

/-- A run of steps over a list leaves the node state where each step does. -/
theorem foldl_nodeState {α : Type} {f : State → α → State} (h : ∀ s a, (f s a).nodeState = s.nodeState) :
    ∀ (l : List α) (s : State), (l.foldl f s).nodeState = s.nodeState
  | [], _ => rfl
  | a :: l, s => (foldl_nodeState h l (f s a)).trans (h s a)

theorem State.forElems_nodeState {f : ElemNo → State → State}
    (h : ∀ e s, (f e s).nodeState = s.nodeState) (s : State) (es : List ElemNo) :
    (s.forElems es f).nodeState = s.nodeState :=
  foldl_nodeState (fun s e => h e s) es s

@[simp] theorem State.modElem_nodeState (s : State) (e : ElemNo) (f : Element → Element) :
    (s.modElem e f).nodeState = s.nodeState := (s.modElem_arb e f).nodeState
@[simp] theorem State.fillTeardown_nodeState (s : State) : s.fillTeardown.nodeState = s.nodeState :=
  s.fillTeardown_touches.nodeState
@[simp] theorem State.enqueueLast_nodeState (s : State) (i : TxItem) :
    (s.enqueueLast i).nodeState = s.nodeState := (s.enqueueLast_touches i).nodeState
@[simp] theorem State.hopstat_nodeState (s : State) (h : Handle) (m : HopMask) (st : Status) (r : Reason)
    (w : Bool) : (s.hopstat h m st r w).nodeState = s.nodeState := (s.hopstat_touches h m st r w).nodeState
@[simp] theorem State.capture_nodeState (s : State) (k : FaultKind) (loc : Option ElemNo)
    (h : Option Handle) : (s.capture k loc h).nodeState = s.nodeState := (s.capture_touches k loc h).nodeState
@[simp] theorem State.accountOwn_nodeState (s : State) (a : Teardown → RestartSeq → RestartSeq)
    (f : Frame) : (s.accountOwn a f).nodeState = s.nodeState := (s.accountOwn_touches a f).nodeState
@[simp] theorem State.grants_nodeState (s : State) : s.grants.nodeState = s.nodeState :=
  s.grants_touches.nodeState
@[simp] theorem State.queueMove_nodeState (s : State) (e : ElemNo) (t : Throw) (k : Lane) :
    (s.queueMove e t k).nodeState = s.nodeState := (s.queueMove_touches e t k).nodeState
@[simp] theorem State.startUnheld_nodeState (s : State) : s.startUnheld.nodeState = s.nodeState :=
  s.startUnheld_touches.nodeState
@[simp] theorem State.releaseFromStep2_nodeState (s : State) (e : ElemNo) (x : Element) :
    (s.releaseFromStep2 e x).nodeState = s.nodeState := (s.releaseFromStep2_touches e x).nodeState
@[simp] theorem State.release_nodeState (s : State) (e : ElemNo) :
    (s.release e).nodeState = s.nodeState := (s.release_touches e).nodeState
@[simp] theorem State.releaseSeen_nodeState (s : State) (e : ElemNo) :
    (s.releaseSeen e).nodeState = s.nodeState := (s.releaseSeen_touches e).nodeState
@[simp] theorem State.slotRelease_nodeState (s : State) (g : Gate) (r : Reason) :
    (s.slotRelease g r).nodeState = s.nodeState := (s.slotRelease_touches g r).nodeState
@[simp] theorem State.endPath_nodeState (s : State) (g : Gate) (r : Reason) :
    (s.endPath g r).nodeState = s.nodeState := (s.endPath_touches g r).nodeState
@[simp] theorem State.trigger_nodeState (s : State) (g : Gate) :
    (s.trigger g).nodeState = s.nodeState := (s.trigger_touches g).nodeState
@[simp] theorem State.openGate_nodeState (s : State) (g : Gate) :
    (s.openGate g).nodeState = s.nodeState := (s.openGate_touches g).nodeState
@[simp] theorem State.testReady_nodeState (s : State) (g : Gate) :
    (s.testReady g).nodeState = s.nodeState := (s.testReady_touches g).nodeState

/-! ### The parts of a command leave the node state -/

@[simp] theorem State.keepPlace_nodeState (s : State) : s.keepPlace.nodeState = s.nodeState := by
  unfold State.keepPlace
  split <;> rfl

@[simp] theorem State.winAttempt_nodeState (s : State) (query : Option Subject) :
    (s.winAttempt query).nodeState = s.nodeState := by
  unfold State.winAttempt
  split
  · split
    · rfl
    · unfold State.sendReport
      split <;> rfl
  · rfl

@[simp] theorem State.expireMove_nodeState (s : State) (v : Service) :
    (s.expireMove v).nodeState = s.nodeState := by
  unfold State.expireMove State.moveEnded
  dsimp only
  split
  · rfl
  · split
    · split <;> simp
    all_goals simp

@[simp] theorem State.endPulsing_nodeState (s : State) (ch : ChannelNo) (e : ElemNo) (t : Throw) (k : Lane)
    (n : Nat) : (s.endPulsing ch e t k n).nodeState = s.nodeState := by
  unfold State.endPulsing
  dsimp only
  split <;> simp

@[simp] theorem State.dropClaims_nodeState (s : State) (h : Handle) :
    (s.dropClaims h).nodeState = s.nodeState :=
  State.forElems_nodeState (fun _ _ => State.modElem_nodeState _ _ _) s _

@[simp] theorem State.expireClaims_nodeState (s : State) (h : Handle) :
    (s.expireClaims h).nodeState = s.nodeState := by
  unfold State.expireClaims
  dsimp only
  split <;> simp

@[simp] theorem State.stepCold_nodeState (s : State) (g : Gate) (t : Throw) :
    (s.stepCold g t).nodeState = s.nodeState := by
  simp [State.stepCold]

theorem State.slotAsserted_nodeState (s : State) (g : Gate) :
    (s.slotAsserted g).nodeState = s.nodeState := by
  unfold State.slotAsserted
  dsimp only
  split <;> simp

@[simp] theorem State.anchorRole_nodeState (s : State) (h : Handle) (r : Resolved) :
    (s.anchorRole h r).nodeState = s.nodeState := by
  unfold State.anchorRole
  split
  · split <;> simp
  all_goals simp

@[simp] theorem State.hopRole_nodeState (s : State) (h : Handle) (lane : Lane) (r : Resolved)
    (mine : HopList) : (s.hopRole h lane r mine).nodeState = s.nodeState := by
  unfold State.hopRole
  split
  · split
    · simp
    · exact foldl_nodeState (fun _ _ => State.modElem_nodeState _ _ _) mine s
  all_goals simp

@[simp] theorem State.seeRoute_nodeState (s : State) (sender : Address) (h : Handle) (lane : Lane)
    (count : Fin 16) (extended : Bool) (hops : List Hop) :
    (s.seeRoute sender h lane count extended hops).nodeState = s.nodeState := by
  unfold State.seeRoute
  dsimp only
  split <;> split <;> simp

theorem State.confirm_nodeState (h : Handle) (e : ElemNo) (s : State) :
    (s.confirm h e).nodeState = s.nodeState := by
  unfold State.confirm
  split
  · rfl
  · split
    · dsimp only
      split
      · rfl
      · split <;> simp
    · rfl

@[simp] theorem State.seeAccept_nodeState (s : State) (h : Handle) :
    (s.seeAccept h).nodeState = s.nodeState := by
  have hconfirm := State.forElems_nodeState (State.confirm_nodeState h) s allElems
  unfold State.seeAccept
  dsimp only
  split <;> simp [hconfirm]

@[simp] theorem State.seeHopstat_nodeState (s : State) (g : Gate) (mask : HopMask) (st : Status) :
    (s.seeHopstat g mask st).nodeState = s.nodeState := by
  cases st with
  | ready =>
    change (s.seeReady g mask).nodeState = _
    unfold State.seeReady
    split <;> simp
  | refused | fault => simp [State.seeHopstat]
  | scanRefused =>
    change (s.seeScanRefused g).nodeState = _
    unfold State.seeScanRefused
    split
    case h_1 | h_2 => rfl
    all_goals split <;> simp

@[simp] theorem State.stepElem_nodeState (s : State) (h : Handle) (k : HopNo) (t : Throw) (e : ElemNo)
    (x : Element) : (s.stepElem h k t e x).nodeState = s.nodeState := by
  unfold State.stepElem
  split
  case h_1 | h_2 => split_ifs <;> simp
  all_goals simp

@[simp] theorem State.seeCold_nodeState (s : State) (h : Handle) (purpose : ColdPurpose) :
    (s.seeCold h purpose).nodeState = s.nodeState := by
  have hcool : (s.coolElems h).nodeState = s.nodeState :=
    State.forElems_nodeState (fun _ _ => State.modElem_nodeState _ _ _) s _
  unfold State.seeCold
  dsimp only
  split
  · exact hcool
  · split
    · exact hcool
    · split <;> simp [hcool]

@[simp] theorem State.releaseHandle_nodeState (s : State) (h : Handle) :
    (s.releaseHandle h).nodeState = s.nodeState := by
  refine (State.forElems_nodeState (fun e s => ?_) (s.withdrawWaiting h) _).trans rfl
  split
  · split <;> simp
  · rfl

@[simp] theorem State.ownRelease_nodeState (s : State) (sender : Address) (h : Handle) :
    (s.ownRelease sender h).nodeState = s.nodeState := by
  unfold State.ownRelease
  split <;> rfl

@[simp] theorem State.scanAnchor_nodeState (s : State) (g : Gate) (S : ThrowSet) (d k : Nat) :
    (s.scanAnchor g S d k).nodeState = s.nodeState := by
  unfold State.scanAnchor
  dsimp only
  split
  case h_1 | h_2 => rfl
  all_goals split <;> simp

@[simp] theorem State.scanLastHop_nodeState (s : State) (h : Handle) (S : ThrowSet) :
    (s.scanLastHop h S).nodeState = s.nodeState := by
  unfold State.scanLastHop
  split
  · split <;> simp
  · rfl

@[simp] theorem State.seeQuery_nodeState (s : State) (u : Subject) :
    (s.seeQuery u).nodeState = s.nodeState := by
  unfold State.seeQuery
  split
  · unfold State.queueReport
    dsimp only
    split <;> simp
  · split
    · split <;> rfl
    · rfl

/-! ### A group read (R58) -/

theorem State.reportSet_nodeState (s : State) (o : Owner) (step warning : Bool) :
    (s.reportSet o step warning).nodeState = s.nodeState := by
  unfold State.reportSet
  split_ifs <;> simp

theorem State.judgeVerify_nodeState (s : State) (e : ElemNo) (x : Element) :
    (s.judgeVerify e x).nodeState = s.nodeState := by
  unfold State.judgeVerify
  split
  · dsimp only
    split <;> simp [State.reportSet_nodeState]
  · split
    · dsimp only
      split
      · split <;> simp
      · simp
    · dsimp only
      split <;> simp

theorem State.judgeReturn_nodeState (s : State) (e : ElemNo) (x : Element) :
    (s.judgeReturn e x).nodeState = s.nodeState := by
  unfold State.judgeReturn
  split
  · rfl
  · split
    · simp
    · dsimp only
      split <;> simp

theorem State.queueBreak_nodeState (s : State) (h : Handle) (mask : HopMask) :
    (s.queueBreak h mask).nodeState = s.nodeState := by
  unfold State.queueBreak
  split <;> simp

theorem State.judgeExposed_nodeState (s : State) (e : ElemNo) (x : Element) :
    (s.judgeExposed e x).nodeState = s.nodeState := by
  unfold State.judgeExposed
  split
  · rfl
  · split
    · rfl
    · unfold State.dropOut
      dsimp only
      split
      · split <;> simp [State.queueBreak_nodeState]
      · simp

theorem State.judge_nodeState (e : ElemNo) (s : State) : (s.judge e).nodeState = s.nodeState := by
  unfold State.judge
  split
  · rfl
  · split
    · exact s.judgeVerify_nodeState e _
    · split
      · exact s.judgeReturn_nodeState e _
      · rfl
    · exact s.judgeExposed_nodeState e _
    · exact s.judgeExposed_nodeState e _
    all_goals rfl

/-- The read that ends the first full loop takes the node to RUNNING (R169), and no other changes its state. -/
theorem State.readGroup_nodeState (s : State) (contacts : List ThrowSet) :
    (s.readGroup contacts).nodeState =
      if s.nodeState = .seeding ∧ s.scanReads % 2 = 1 then .running else s.nodeState := by
  have hjudged : ∀ (l : List (ElemNo × ThrowSet)) (es : List ElemNo),
      (State.forElems (l.foldl State.storeSensed
        { s.elapse s.untilRead with scanReads := (s.elapse s.untilRead).scanReads + 1 }) es
        State.judge).nodeState = s.nodeState := fun l es =>
    (State.forElems_nodeState State.judge_nodeState _ es).trans
      (foldl_nodeState (fun _ _ => State.modElem_nodeState _ _ _) l _)
  unfold State.readGroup
  dsimp only
  rw [hjudged]
  change (if s.nodeState = .seeding ∧ s.scanReads % 2 = 1 then _ else _ : State).nodeState = _
  split
  · simp [State.endSeeding]
  · exact hjudged _ _

/-! ### The start and the end of a warm restart (R158, R162) -/

@[simp] theorem State.beginRestart_nodeState (s : State) : s.beginRestart.nodeState = .restarting := by
  obtain ⟨_, _, h⟩ := s.beginRestart_eq
  rw [h]

@[simp] theorem State.releaseStep_nodeState (s : State) : s.releaseStep.nodeState = .running := by
  simp [State.releaseStep, State.clearForRestart]

/-- A good frame takes the node to RESTARTING where it overruns the receive queue of a RUNNING node (R82), and
else leaves the node state. -/
theorem State.receive_nodeState (s : State) (rx : RxFrame) :
    (s.receive rx).nodeState =
      if s.nodeState = .running ∧ Config.rxCapacity ≤ s.rxQueue.length then .restarting else s.nodeState := by
  by_cases hroom : s.rxQueue.length < Config.rxCapacity
  · rw [State.receive_of_room hroom, if_neg fun h => Nat.not_lt.2 h.2 hroom]
  · have hlost : (if rx.sender = s.address then s.accountOwn RestartSeq.lose rx.frame else s).nodeState =
        s.nodeState := by split <;> simp
    by_cases hrunning : s.nodeState = .running <;>
      simp [State.receive, hroom, hlost, hrunning, Nat.not_lt.1 hroom]

/-- `t` stands in the node state of `s`, or in the warm restart that an overrun of `s` begins (R82). -/
def SameOrOverrun (s t : State) : Prop :=
  t.nodeState = s.nodeState ∨
    s.nodeState = .running ∧ t.nodeState = .restarting ∧ Config.rxCapacity ≤ s.rxQueue.length

theorem State.receive_sameOrOverrun (s : State) (rx : RxFrame) : SameOrOverrun s (s.receive rx) := by
  rw [SameOrOverrun, State.receive_nodeState]
  split
  next h => exact .inr ⟨h.1, rfl, h.2⟩
  next => exact .inl rfl

theorem State.ownCompletes_sameOrOverrun (s : State) (f : Frame) (flagged : Bool) :
    SameOrOverrun s (s.ownCompletes f flagged) := by
  unfold State.ownCompletes
  split
  · exact .inl s.keepPlace_nodeState
  · exact s.leaveQueue.receive_sameOrOverrun _

theorem State.frameCompletes_sameOrOverrun (s : State) (f : RawFrame) (flagged : Bool) :
    SameOrOverrun s (s.frameCompletes f flagged) := by
  unfold State.frameCompletes
  split
  · exact .inl rfl
  · split
    · exact .inl rfl
    · split
      · exact s.receive_sameOrOverrun _
      · exact .inl rfl

/-! ### The commands that leave the node state -/

/-- A command on `s` answers a next state, in the node state of `s`. -/
def KeepsNodeState (s : State) (o : Host.Outcome State Fault Refusal) : Prop :=
  ∃ t, o = .next t ∧ t.nodeState = s.nodeState

namespace KeepsNodeState
variable {s t u : State}

theorem next (h : t.nodeState = s.nodeState) : KeepsNodeState s (.next t) := ⟨t, rfl, h⟩

theorem same : KeepsNodeState s (.next s) := next rfl

/-- A frame taken whose effect hangs on a condition. -/
theorem next_ite {p : Prop} [Decidable p] (ht : t.nodeState = s.nodeState) (hu : u.nodeState = s.nodeState) :
    KeepsNodeState s (.next (if p then t else u)) :=
  next (by split <;> assumption)

theorem nodeState_eq {o : Host.Outcome State Fault Refusal} (h : KeepsNodeState s o) (ho : o = .next t) :
    t.nodeState = s.nodeState := by
  obtain ⟨u, rfl, hu⟩ := h
  cases ho
  exact hu

end KeepsNodeState

open KeepsNodeState

theorem execResetHigh_keeps (straps : BitVec 6) (s : State) : KeepsNodeState s (execResetHigh straps s) := by
  unfold execResetHigh
  split
  · exact next rfl
  · exact same

/-! #### Moves, channels and COILOK -/

theorem execMoveDExpires_keeps (e : ElemNo) (s : State) : KeepsNodeState s (execMoveDExpires e s) := by
  unfold execMoveDExpires
  split
  · split
    · exact same
    · exact next (s.expireMove_nodeState _)
  · exact same

theorem execCascadeFrontPulseEnd_keeps (ch : ChannelNo) (s : State) :
    KeepsNodeState s (execCascadeFrontPulseEnd ch s) := by
  unfold execCascadeFrontPulseEnd
  split
  · exact next rfl
  · exact same

theorem execCascadeGapEnd_keeps (ch : ChannelNo) (s : State) :
    KeepsNodeState s (execCascadeGapEnd ch s) := by
  unfold execCascadeGapEnd
  split
  · exact next rfl
  · exact same

theorem execPulsingEnd_keeps (ch : ChannelNo) (s : State) : KeepsNodeState s (execPulsingEnd ch s) := by
  unfold execPulsingEnd
  split
  · exact next (State.endPulsing_nodeState _ _ _ _ _ _)
  · exact same

theorem execChannelRecoveryEnd_keeps (ch : ChannelNo) (s : State) :
    KeepsNodeState s (execChannelRecoveryEnd ch s) := by
  unfold execChannelRecoveryEnd
  split
  · exact next (State.grants_nodeState _)
  · exact same

theorem execCoilokRise_keeps (s : State) : KeepsNodeState s (execCoilokRise s) :=
  next (State.grants_nodeState _)

theorem execCoilokFall_keeps (s : State) : KeepsNodeState s (execCoilokFall s) := by
  unfold execCoilokFall
  split
  · exact next_ite (State.capture_nodeState _ _ _ _) rfl
  · exact same

/-! #### Timers, triggers and the quench line -/

theorem execTentativeClaimTimerExpiry_keeps (h : Handle) (s : State) :
    KeepsNodeState s (execTentativeClaimTimerExpiry h s) := by
  unfold execTentativeClaimTimerExpiry
  split
  · exact next (State.expireClaims_nodeState _ h)
  · exact same

theorem execSetupStepTimerExpiry_keeps (g : Gate) (s : State) :
    KeepsNodeState s (execSetupStepTimerExpiry g s) := by
  unfold execSetupStepTimerExpiry
  split
  · exact next (State.slotRelease_nodeState _ g _)
  · exact next (State.slotRelease_nodeState _ g _)
  · exact same

theorem execQuenchTimerExpiryRelease_keeps (g : Gate) (s : State) :
    KeepsNodeState s (execQuenchTimerExpiryRelease g s) := by
  unfold execQuenchTimerExpiryRelease
  dsimp only
  split
  · exact next (State.slotRelease_nodeState _ g _)
  · exact same

theorem execQuenchTimerExpiryStep_keeps (g : Gate) (s : State) :
    KeepsNodeState s (execQuenchTimerExpiryStep g s) := by
  unfold execQuenchTimerExpiryStep
  dsimp only
  split
  · exact next (State.stepCold_nodeState _ g _)
  · exact same

theorem execResumeTimerExpiry_keeps (g : Gate) (s : State) :
    KeepsNodeState s (execResumeTimerExpiry g s) := by
  unfold execResumeTimerExpiry
  dsimp only
  split
  · exact next (State.openGate_nodeState _ g)
  · exact same

theorem execTriggerEdge_keeps (g : Gate) (s : State) : KeepsNodeState s (execTriggerEdge g s) := by
  unfold execTriggerEdge
  split
  · exact next (s.trigger_nodeState g)
  · exact same

theorem execQuenchAssertionSensed_keeps (s : State) : KeepsNodeState s (execQuenchAssertionSensed s) := by
  unfold execQuenchAssertionSensed
  split
  · exact same
  · exact next_ite (foldl_nodeState State.slotAsserted_nodeState _ _) rfl

theorem execQuenchReleaseSensed_keeps (s : State) : KeepsNodeState s (execQuenchReleaseSensed s) := by
  unfold execQuenchReleaseSensed
  split
  · exact next_ite rfl rfl
  · exact same

/-! #### The line -/

theorem execLineIdleResync_keeps (s : State) : KeepsNodeState s (execLineIdleResync s) := by
  unfold execLineIdleResync
  split
  · exact next rfl
  · exact same

theorem execTxAttemptStart_keeps (s : State) : KeepsNodeState s (execTxAttemptStart s) := by
  unfold execTxAttemptStart
  split
  · split
    · exact next rfl
    · exact same
  · exact same

theorem execArbitrationLost_keeps (s : State) : KeepsNodeState s (execArbitrationLost s) := by
  unfold execArbitrationLost
  split
  · exact next s.keepPlace_nodeState
  · exact same
  · exact same

theorem execArbitrationWon_keeps (s : State) : KeepsNodeState s (execArbitrationWon s) := by
  unfold execArbitrationWon
  split
  · exact next (s.winAttempt_nodeState _)
  · exact same
  · exact same

theorem execOverLongFrame_keeps (s : State) : KeepsNodeState s (execOverLongFrame s) := by
  unfold execOverLongFrame
  split
  · exact next rfl
  · exact same

/-! #### The frames of setup, of a path and of a scan -/

theorem execFrameSeenRoute_keeps (s : State) : KeepsNodeState s (execFrameSeenRoute s) := by
  unfold execFrameSeenRoute
  split
  · exact next (s.popFrame.seeRoute_nodeState _ _ _ _ _ _)
  · exact same

theorem execFrameSeenRouteExt_keeps (s : State) : KeepsNodeState s (execFrameSeenRouteExt s) := by
  unfold execFrameSeenRouteExt
  split
  · exact next rfl
  · exact same

theorem execFrameSeenAccept_keeps (s : State) : KeepsNodeState s (execFrameSeenAccept s) := by
  unfold execFrameSeenAccept
  split
  · exact next_ite (s.popFrame.seeAccept_nodeState _) rfl
  · exact same

theorem execFrameSeenRefuse_keeps (s : State) : KeepsNodeState s (execFrameSeenRefuse s) := by
  unfold execFrameSeenRefuse
  split
  · exact next_ite (s.popFrame.dropClaims_nodeState _) rfl
  · exact same

theorem execFrameSeenHopstat_keeps (s : State) : KeepsNodeState s (execFrameSeenHopstat s) := by
  unfold execFrameSeenHopstat
  split
  · exact next_ite (s.popFrame.seeHopstat_nodeState _ _ _) rfl
  · exact same

theorem execFrameSeenHot_keeps (s : State) : KeepsNodeState s (execFrameSeenHot s) := by
  unfold execFrameSeenHot
  split
  · exact next_ite (State.forElems_nodeState (fun _ _ => State.modElem_nodeState _ _ _) s.popFrame _) rfl
  · exact same

theorem execFrameSeenCold_keeps (s : State) : KeepsNodeState s (execFrameSeenCold s) := by
  unfold execFrameSeenCold
  split
  · exact next_ite (s.popFrame.seeCold_nodeState _ _) rfl
  · exact same

theorem execFrameSeenRelease_keeps (s : State) : KeepsNodeState s (execFrameSeenRelease s) := by
  unfold execFrameSeenRelease
  split
  · refine next_ite ?_ ?_
    · rw [State.ownRelease_nodeState, State.releaseHandle_nodeState, State.popFrame_nodeState]
    · split <;> rfl
  · exact same

theorem execFrameSeenBreak_keeps (s : State) : KeepsNodeState s (execFrameSeenBreak s) := by
  unfold execFrameSeenBreak
  split
  · refine next_ite ((State.endPath_nodeState _ _ _).trans ?_) ?_
    all_goals split <;> rfl
  · exact same

theorem execFrameSeenDrop_keeps (s : State) : KeepsNodeState s (execFrameSeenDrop s) := by
  unfold execFrameSeenDrop
  split
  · exact next_ite (s.popFrame.endPath_nodeState _ _) rfl
  · exact same

theorem execFrameSeenScan_keeps (s : State) : KeepsNodeState s (execFrameSeenScan s) := by
  unfold execFrameSeenScan
  split
  · split
    · refine next ((State.scanLastHop_nodeState _ _ _).trans ?_)
      split <;> simp
    · exact next rfl
  · exact same

theorem execFrameSeenAdvance_keeps (s : State) : KeepsNodeState s (execFrameSeenAdvance s) := by
  unfold execFrameSeenAdvance
  split
  · exact next_ite (s.popFrame.trigger_nodeState _) rfl
  · exact same

/-! #### The frames addressed to a node -/

theorem execFrameSeenLanehold_keeps (s : State) : KeepsNodeState s (execFrameSeenLanehold s) := by
  unfold execFrameSeenLanehold
  split
  · exact next_ite (by simp [State.holdLanes]) rfl
  · exact same

theorem execFrameSeenQuery_keeps (s : State) : KeepsNodeState s (execFrameSeenQuery s) := by
  unfold execFrameSeenQuery
  split
  · exact next_ite (s.popFrame.seeQuery_nodeState _) rfl
  · exact same

theorem execFrameSeenReport_keeps (s : State) : KeepsNodeState s (execFrameSeenReport s) := by
  unfold execFrameSeenReport
  split
  · exact next rfl
  · exact same

theorem execFrameSeenNotice_keeps (s : State) : KeepsNodeState s (execFrameSeenNotice s) := by
  unfold execFrameSeenNotice
  split
  · exact next rfl
  · exact same

theorem execFrameSeenClearfault_keeps (s : State) : KeepsNodeState s (execFrameSeenClearfault s) := by
  unfold execFrameSeenClearfault
  split
  · exact next_ite (by rw [State.clearFaults_eq]; rfl) rfl
  · exact same

/-! #### The steps of a warm restart before its end -/

theorem execTeardownFrameQueued_keeps (s : State) : KeepsNodeState s (execTeardownFrameQueued s) := by
  unfold execTeardownFrameQueued
  split
  · split
    · split
      · exact next rfl
      · exact same
    · exact same
  · exact same

theorem execRestartWithdrawalStep_keeps (s : State) : KeepsNodeState s (execRestartWithdrawalStep s) := by
  unfold execRestartWithdrawalStep
  split
  · split
    · exact next rfl
    · exact same
  · exact same

/-! ### Every command -/

/-- The commands that have a place among the causes of R164. -/
def isNodeStateCause : Instr → Bool
  | .resetLow | .imageReadDone _ | .senseGroupRead _ | .frameEnd _ _ | .frameSeenRestart
  | .restartReleaseStep => true
  | _ => false

/-- A command that is no cause of R164 leaves the node state. -/
theorem exec_keeps {c : Instr} (hc : isNodeStateCause c = false) (s : State) :
    KeepsNodeState s (exec c s) := by
  cases c with
  | resetLow | imageReadDone | senseGroupRead | frameEnd | frameSeenRestart | restartReleaseStep =>
    cases hc
  | resetHigh straps => exact execResetHigh_keeps straps s
  | moveDExpires e => exact execMoveDExpires_keeps e s
  | cascadeFrontPulseEnd ch => exact execCascadeFrontPulseEnd_keeps ch s
  | cascadeGapEnd ch => exact execCascadeGapEnd_keeps ch s
  | pulsingEnd ch => exact execPulsingEnd_keeps ch s
  | channelRecoveryEnd ch => exact execChannelRecoveryEnd_keeps ch s
  | coilokRise => exact execCoilokRise_keeps s
  | coilokFall => exact execCoilokFall_keeps s
  | tentativeClaimTimerExpiry h => exact execTentativeClaimTimerExpiry_keeps h s
  | setupStepTimerExpiry g => exact execSetupStepTimerExpiry_keeps g s
  | quenchTimerExpiryRelease g => exact execQuenchTimerExpiryRelease_keeps g s
  | quenchTimerExpiryStep g => exact execQuenchTimerExpiryStep_keeps g s
  | resumeTimerExpiry g => exact execResumeTimerExpiry_keeps g s
  | triggerEdge g => exact execTriggerEdge_keeps g s
  | quenchAssertionSensed => exact execQuenchAssertionSensed_keeps s
  | quenchReleaseSensed => exact execQuenchReleaseSensed_keeps s
  | lineIdleResync => exact execLineIdleResync_keeps s
  | txAttemptStart => exact execTxAttemptStart_keeps s
  | arbitrationLost => exact execArbitrationLost_keeps s
  | arbitrationWon => exact execArbitrationWon_keeps s
  | frameSeenRoute => exact execFrameSeenRoute_keeps s
  | frameSeenRouteExt => exact execFrameSeenRouteExt_keeps s
  | frameSeenAccept => exact execFrameSeenAccept_keeps s
  | frameSeenRefuse => exact execFrameSeenRefuse_keeps s
  | frameSeenHopstat => exact execFrameSeenHopstat_keeps s
  | frameSeenHot => exact execFrameSeenHot_keeps s
  | frameSeenCold => exact execFrameSeenCold_keeps s
  | frameSeenRelease => exact execFrameSeenRelease_keeps s
  | frameSeenBreak => exact execFrameSeenBreak_keeps s
  | frameSeenScan => exact execFrameSeenScan_keeps s
  | frameSeenAdvance => exact execFrameSeenAdvance_keeps s
  | frameSeenDrop => exact execFrameSeenDrop_keeps s
  | frameSeenLanehold => exact execFrameSeenLanehold_keeps s
  | frameSeenQuery => exact execFrameSeenQuery_keeps s
  | frameSeenReport => exact execFrameSeenReport_keeps s
  | frameSeenNotice => exact execFrameSeenNotice_keeps s
  | frameSeenClearfault => exact execFrameSeenClearfault_keeps s
  | teardownFrameQueued => exact execTeardownFrameQueued_keeps s
  | restartWithdrawalStep => exact execRestartWithdrawalStep_keeps s
  | overLongFrame => exact execOverLongFrame_keeps s

/-! ### The checks of R167 -/

theorem entriesOk_iff (image : List Byte) (count : Nat) :
    entriesOk image count = true ↔ ∀ e, e < count → entryOk image e = true := by
  induction count with
  | zero => simp [entriesOk]
  | succ k ih =>
    rw [entriesOk, Bool.and_eq_true, ih, Nat.forall_lt_succ_right]

/-- An entry that fails its checks, as the reading byte by byte lists the faults. -/
theorem entryOk_eq_false_iff (image : List Byte) (e : Nat) :
    entryOk image e = false ↔
      (imageByte image (19 + 6 * e) < 1 ∨ 3 < imageByte image (19 + 6 * e) ∨
        imageByte image (20 + 6 * e) < 2 ∨ 12 < imageByte image (20 + 6 * e) ∨
        ((imageByte image (21 + 6 * e)).testBit 7 = true ∧
          (imageByte image (19 + 6 * e) ≠ 1 ∨ imageByte image (20 + 6 * e) < 4)) ∨
        ((imageByte image (21 + 6 * e)).testBit 6 = true ∧
          imageByte image (20 + 6 * e) ≤ imageByte image (21 + 6 * e) % 16)) := by
  have hthrows : entryAt e + 1 = 20 + 6 * e := by unfold entryAt; omega
  have hflags : entryAt e + 2 = 21 + 6 * e := by unfold entryAt; omega
  rw [entryOk, hthrows, hflags, entryAt]
  simp only [Bool.and_eq_false_iff, Bool.or_eq_false_iff, decide_eq_false_iff_not, Bool.not_eq_false',
    beq_eq_false_iff_ne, Nat.not_le, Nat.not_lt, or_assoc]

theorem imageFaulty_iff (image : List Byte) : imageFaulty image ↔ imageOk image = false := by
  have hentries : (∃ e, e < imageByte image 2 ∧ entryOk image e = false) ↔
      entriesOk image (imageByte image 2) = false := by
    simp [← Bool.not_eq_true, entriesOk_iff]
  simp only [entryOk_eq_false_iff] at hentries
  unfold imageFaulty imageOk imageHeaderOk
  dsimp only
  rw [hentries]
  simp only [Bool.and_eq_false_iff, decide_eq_false_iff_not, beq_eq_false_iff_ne, Nat.not_le, or_assoc]

/-! ### The commands that can change it -/

theorem nodeState_of_execImageReadDone {image : List Byte} {s t : State}
    (h : execImageReadDone image s = .next t) (hne : t.nodeState ≠ s.nodeState) :
    s.nodeState = .starting ∧
      (¬imageFaulty image ∧ t.nodeState = .seeding ∨ imageFaulty image ∧ t.nodeState = .configFault) := by
  unfold execImageReadDone at h
  split at h
  next hreading =>
    refine ⟨hreading.1, ?_⟩
    cases h
    cases hok : imageOk image with
    | true => exact .inl ⟨by simp [imageFaulty_iff, hok], rfl⟩
    | false => exact .inr ⟨(imageFaulty_iff image).2 hok, State.capture_nodeState _ _ _ _⟩
  next => cases h; exact absurd rfl hne

theorem nodeState_of_execSenseGroupRead {contacts : List ThrowSet} {s t : State}
    (h : execSenseGroupRead contacts s = .next t) (hne : t.nodeState ≠ s.nodeState) :
    s.nodeState = .seeding ∧ t.nodeState = .running ∧ s.scanReads % 2 = 1 := by
  unfold execSenseGroupRead at h
  split at h <;> cases h
  · rw [State.readGroup_nodeState] at hne ⊢
    split at hne
    next hlast => exact ⟨hlast.1, if_pos hlast, hlast.2⟩
    next => exact absurd rfl hne
  · exact absurd rfl hne

theorem nodeState_of_execFrameEnd {frame : Option RawFrame} {flagged : Bool} {s t : State}
    (h : execFrameEnd frame flagged s = .next t) (hne : t.nodeState ≠ s.nodeState) :
    s.nodeState = .running ∧ t.nodeState = .restarting ∧ Config.rxCapacity ≤ s.rxQueue.length := by
  unfold execFrameEnd at h
  split at h
  · cases h
    exact (s.ownCompletes_sameOrOverrun _ _).resolve_left hne
  · split at h <;> cases h
    · exact (s.frameCompletes_sameOrOverrun _ _).resolve_left hne
    · exact absurd rfl hne
  · cases h
    exact absurd rfl hne

theorem nodeState_of_execFrameSeenRestart {s t : State} (h : execFrameSeenRestart s = .next t)
    (hne : t.nodeState ≠ s.nodeState) :
    s.nodeState = .running ∧ t.nodeState = .restarting ∧
      ∃ a target, s.headFrame = some ⟨a, .restart target⟩ ∧ s.addressedBy target = true := by
  unfold execFrameSeenRestart at h
  split at h <;> cases h
  next a target hhead =>
    split at hne
    next hobeys =>
      obtain ⟨hrunning, haddressed⟩ : s.nodeState = .running ∧ s.addressedBy target = true := by
        simpa [State.obeys] using hobeys
      exact ⟨hrunning, by simp [hobeys], a, target, hhead, haddressed⟩
    next => exact absurd rfl hne
  next => exact absurd rfl hne

theorem nodeState_of_execRestartReleaseStep {s t : State} (h : execRestartReleaseStep s = .next t)
    (hne : t.nodeState ≠ s.nodeState) : s.restart.isSome = true ∧ t.nodeState = .running := by
  unfold execRestartReleaseStep at h
  split at h
  next hrestart =>
    split at h
    · obtain rfl := Host.Outcome.next.inj h
      exact ⟨by simp [hrestart], s.releaseStep_nodeState⟩
    · cases h
      exact absurd rfl hne
  next => cases h; exact absurd rfl hne

/-! ### The node state in a node report (R78, R175) -/

theorem State.take_nodeReport (s : State) : s.nodeReport.take 3 = natBits 3 s.nodeState.code := by
  simp only [State.nodeReport, List.append_assoc]
  rfl

/-! ### The transitions of R164 -/

/-- A change of the node state has one of R164's causes. -/
theorem nodeState_cause {c : Instr} {s t : State} (h : exec c s = .next t) (hs : s.drivesSafe)
    (hne : t.nodeState ≠ s.nodeState) :
    c = .resetLow ∧ t.nodeState = .starting ∨
    (∃ image, c = .imageReadDone image ∧ s.nodeState = .starting ∧
      (¬imageFaulty image ∧ t.nodeState = .seeding ∨ imageFaulty image ∧ t.nodeState = .configFault)) ∨
    (∃ contacts, c = .senseGroupRead contacts ∧ s.nodeState = .seeding ∧ t.nodeState = .running ∧
      s.scanReads % 2 = 1) ∨
    (s.nodeState = .running ∧ t.nodeState = .restarting ∧
      ((c = .frameSeenRestart ∧ ∃ a target, s.headFrame = some ⟨a, .restart target⟩ ∧
          s.addressedBy target = true) ∨
        ∃ frame flagged, c = .frameEnd frame flagged ∧ Config.rxCapacity ≤ s.rxQueue.length)) ∨
    c = .restartReleaseStep ∧ s.nodeState = .restarting ∧ t.nodeState = .running := by
  cases hc : isNodeStateCause c with
  | false => exact absurd ((exec_keeps hc s).nodeState_eq h) hne
  | true =>
    cases c with
    | resetLow => cases h; exact .inl ⟨rfl, rfl⟩
    | imageReadDone image => exact .inr (.inl ⟨image, rfl, nodeState_of_execImageReadDone h hne⟩)
    | senseGroupRead contacts =>
      exact .inr (.inr (.inl ⟨contacts, rfl, nodeState_of_execSenseGroupRead h hne⟩))
    | frameEnd frame flagged =>
      obtain ⟨hrunning, hrestarting, hfull⟩ := nodeState_of_execFrameEnd h hne
      exact .inr (.inr (.inr (.inl ⟨hrunning, hrestarting, .inr ⟨frame, flagged, rfl, hfull⟩⟩)))
    | frameSeenRestart =>
      obtain ⟨hrunning, hrestarting, hframe⟩ := nodeState_of_execFrameSeenRestart h hne
      exact .inr (.inr (.inr (.inl ⟨hrunning, hrestarting, .inl ⟨rfl, hframe⟩⟩)))
    | restartReleaseStep =>
      obtain ⟨hrestart, hrunning⟩ := nodeState_of_execRestartReleaseStep h hne
      exact .inr (.inr (.inr (.inr ⟨rfl, hs.sequence.1 hrestart, hrunning⟩)))
    | _ => cases hc

/-- No cause but RESET low is one of CONFIG-FAULT. -/
theorem configFault_stays {c : Instr} {s t : State} (h : exec c s = .next t) (hs : s.drivesSafe)
    (hfault : s.nodeState = .configFault) (hc : c ≠ .resetLow) : t.nodeState = .configFault := by
  by_contra hleft
  rcases nodeState_cause h hs (hfault ▸ hleft) with
    ⟨hreset, -⟩ | ⟨_, -, hstate, -⟩ | ⟨_, -, hstate, -⟩ | ⟨hstate, -⟩ | ⟨-, hstate, -⟩
  · exact hc hreset
  all_goals exact nomatch hfault.symm.trans hstate

/-- Settles O59: the causes of R164 are the only ones, none but RESET low is one of CONFIG-FAULT, and a node
report begins with the code of the node state. -/
theorem nodeStateChangesAsGiven : Obligations.NodeStateChangesAsGiven := by
  refine ⟨fun _ _ _ => nodeState_cause, fun s => ⟨s.coldStart, rfl, rfl⟩, fun _ _ _ => configFault_stays,
    fun s i => ?_⟩
  change s.nodeReport.take 3 = _
  rw [s.take_nodeReport]
  cases s.nodeState <;> decide

end Sys2Proof.Machine
end

section
/-!
PROOFS. The codec (R76 to R78, R80): reading a field back from the bits it was written to, the round trip of a frame
over the line, and that what a receiver takes fits its layout.
-/

namespace Sys2Proof.Machine

/-! ### Bits and numbers -/

@[simp] theorem natBits_length (w n : Nat) : (natBits w n).length = w := by
  induction w with
  | zero => rfl
  | succ w ih => simp [natBits, ih]

theorem foldl_bits (bs : List Bool) (n : Nat) :
    bs.foldl (fun n b => 2 * n + b.toNat) n = n * 2 ^ bs.length + bitsNat bs := by
  induction bs generalizing n with
  | nil => simp [bitsNat]
  | cons b bs ih =>
    rw [bitsNat, List.foldl_cons, List.foldl_cons, ih, ih (2 * 0 + b.toNat), List.length_cons]
    ring

@[simp] theorem bitsNat_nil : bitsNat [] = 0 := rfl

theorem bitsNat_cons (b : Bool) (bs : List Bool) : bitsNat (b :: bs) = b.toNat * 2 ^ bs.length + bitsNat bs := by
  rw [bitsNat, List.foldl_cons, foldl_bits]
  simp

theorem bitsNat_append (as bs : List Bool) : bitsNat (as ++ bs) = bitsNat as * 2 ^ bs.length + bitsNat bs := by
  rw [bitsNat, List.foldl_append, foldl_bits]
  rfl

theorem bitsNat_lt (bs : List Bool) : bitsNat bs < 2 ^ bs.length := by
  induction bs with
  | nil => simp
  | cons b bs ih =>
    have hb : b.toNat * 2 ^ bs.length ≤ 2 ^ bs.length := by cases b <;> simp
    rw [bitsNat_cons, List.length_cons, Nat.pow_succ]
    omega

theorem bitsNat_natBits (w n : Nat) : bitsNat (natBits w n) = n % 2 ^ w := by
  induction w with
  | zero => simp [natBits, Nat.mod_one]
  | succ w ih =>
    rw [natBits, bitsNat_cons, ih, natBits_length, Nat.mod_pow_succ, Nat.testBit_eq_decide_div_mod_eq]
    have h : n / 2 ^ w % 2 = 0 ∨ n / 2 ^ w % 2 = 1 := by omega
    rcases h with h | h <;> simp [h, Nat.add_comm]

/-- The low `w` bits of a number depend on those alone. -/
theorem natBits_mod (w n : Nat) : natBits w (n % 2 ^ w) = natBits w n := by
  suffices h : ∀ v ≤ w, natBits v (n % 2 ^ w) = natBits v n from h w (Nat.le_refl w)
  intro v hv
  induction v with
  | zero => rfl
  | succ v ih => simp [natBits, ih (by omega), Nat.testBit_mod_two_pow, Nat.lt_of_succ_le hv]

/-- Bits of the right number spell themselves. -/
theorem natBits_bitsNat (bs : List Bool) : natBits bs.length (bitsNat bs) = bs := by
  induction bs with
  | nil => rfl
  | cons b bs ih =>
    have hlt := bitsNat_lt bs
    have htail : natBits bs.length (bitsNat (b :: bs)) = bs := by
      rw [← natBits_mod, bitsNat_cons, Nat.mul_add_mod_self_right, Nat.mod_eq_of_lt hlt, ih]
    rw [List.length_cons, natBits, htail, bitsNat_cons, Nat.testBit_eq_decide_div_mod_eq, Nat.add_comm,
      Nat.add_mul_div_right _ _ (by positivity), Nat.div_eq_of_lt hlt]
    cases b <;> rfl

/-! ### Fields -/

/-- A field that the bits hold whole. -/
theorem field_eq {bs : List Bool} {off w : Nat} (h : off + w ≤ bs.length) :
    field bs off w = bitsNat ((bs.drop off).take w) := by
  have hzero : w - (bs.length - off) = 0 := by omega
  rw [field, hzero, List.replicate_zero, List.append_nil]

theorem field_lt (bs : List Bool) (off w : Nat) : field bs off w < 2 ^ w := by
  refine Nat.lt_of_lt_of_eq (bitsNat_lt _) (congrArg _ ?_)
  simp only [List.length_append, List.length_take, List.length_drop, List.length_replicate]
  omega

theorem field_append_left {as bs : List Bool} {off w : Nat} (h : off + w ≤ as.length) :
    field (as ++ bs) off w = field as off w := by
  rw [field_eq h, field_eq (by rw [List.length_append]; omega), List.drop_append_of_le_length (by omega),
    List.take_append_of_le_length (by rw [List.length_drop]; omega)]

theorem field_append_right {as bs : List Bool} {off w : Nat} (h : as.length ≤ off) :
    field (as ++ bs) off w = field bs (off - as.length) w := by
  have hlen : (as ++ bs).length - off = bs.length - (off - as.length) := by rw [List.length_append]; omega
  rw [field, field, hlen, List.drop_append, List.drop_eq_nil_of_le h, List.nil_append]

/-- A number of `w` bits is read back where it was written. -/
theorem field_natBits (w n : Nat) : field (natBits w n) 0 w = n % 2 ^ w := by
  rw [field_eq (by simp), List.drop_zero, List.take_of_length_le (by simp), bitsNat_natBits]

theorem field_singleton (b : Bool) : field [b] 0 1 = b.toNat := by cases b <;> rfl

theorem field_cons {b : Bool} {bs : List Bool} {off w : Nat} :
    field (b :: bs) (off + 1) w = field bs off w := by
  have := field_append_right (as := [b]) (bs := bs) (off := off + 1) (w := w) (by simp)
  simpa using this

/-! ### Bytes -/

@[simp] theorem bitsBytes_length (n : Nat) (bs : List Bool) : (bitsBytes n bs).length = n := by
  induction n generalizing bs with
  | zero => rfl
  | succ n ih => simp [bitsBytes, ih]

@[simp] theorem bytesBits_length (l : List Byte) : (bytesBits l).length = 8 * l.length := by
  induction l with
  | nil => rfl
  | cons b l ih => simp [bytesBits, ih]; omega

/-- Bits written to bytes are followed by the fill of the last byte (R77). -/
theorem bytesBits_bitsBytes (n : Nat) (bs : List Bool) (h : bs.length ≤ 8 * n) :
    bytesBits (bitsBytes n bs) = bs ++ List.replicate (8 * n - bs.length) false := by
  induction n generalizing bs with
  | zero => simp_all [bitsBytes, bytesBits]
  | succ n ih =>
    have hfirst : natBits 8 (BitVec.ofNat 8 (field bs 0 8)).toNat =
        bs.take 8 ++ List.replicate (8 - bs.length) false := by
      have hlen : (bs.take 8 ++ List.replicate (8 - bs.length) false).length = 8 := by simp; omega
      have hbits := natBits_bitsNat (bs.take 8 ++ List.replicate (8 - bs.length) false)
      rw [hlen] at hbits
      rw [BitVec.toNat_ofNat, natBits_mod]
      exact hbits
    rw [bitsBytes, bytesBits, hfirst, ih (bs.drop 8) (by rw [List.length_drop]; omega), List.length_drop]
    by_cases hlen : 8 ≤ bs.length
    · have hpad : 8 - bs.length = 0 := by omega
      have hfill : 8 * n - (bs.length - 8) = 8 * (n + 1) - bs.length := by omega
      rw [hpad, hfill, List.replicate_zero, List.append_nil, ← List.append_assoc, List.take_append_drop]
    · have hfill : 8 * (n + 1) - bs.length = (8 - bs.length) + (8 * n - (bs.length - 8)) := by omega
      rw [List.take_of_length_le (by omega), List.drop_eq_nil_of_le (by omega), List.nil_append, hfill,
        List.replicate_add, List.append_assoc]

/-! ### Reading fields in turn -/

theorem field_natBits_append (w n : Nat) (bs : List Bool) :
    field (natBits w n ++ bs) 0 w = n % 2 ^ w := by
  rw [field_append_left (by simp), field_natBits]

@[simp] theorem field_bitVec_append {w : Nat} (x : BitVec w) (bs : List Bool) :
    field (natBits w x.toNat ++ bs) 0 w = x.toNat := by
  rw [field_natBits_append, Nat.mod_eq_of_lt x.isLt]

@[simp] theorem field_fin_append {n w : Nat} (x : Fin n) (bs : List Bool) (h : n ≤ 2 ^ w) :
    field (natBits w x.val ++ bs) 0 w = x.val := by
  rw [field_natBits_append, Nat.mod_eq_of_lt (Nat.lt_of_lt_of_le x.isLt h)]

@[simp] theorem field_natBits_append_of_lt {n w : Nat} (bs : List Bool) (h : n < 2 ^ w) :
    field (natBits w n ++ bs) 0 w = n := by
  rw [field_natBits_append, Nat.mod_eq_of_lt h]

@[simp] theorem field_natBits_skip {k n off w : Nat} {bs : List Bool} (h : k ≤ off) :
    field (natBits k n ++ bs) off w = field bs (off - k) w := by
  rw [field_append_right (by simpa using h), natBits_length]

@[simp] theorem field_cons_zero (b : Bool) (bs : List Bool) : field (b :: bs) 0 1 = b.toNat := by
  rw [← List.singleton_append, field_append_left (by simp), field_singleton]

@[simp] theorem field_cons_skip {b : Bool} {off w : Nat} {bs : List Bool} (h : 1 ≤ off) :
    field (b :: bs) off w = field bs (off - 1) w := by
  rw [← List.singleton_append, field_append_right (by simpa using h), List.length_singleton]

@[simp] theorem handleBits_length (h : Handle) : (handleBits h).length = 9 := by simp [handleBits]

@[simp] theorem handleAt_append (h : Handle) (bs : List Bool) : handleAt (handleBits h ++ bs) 0 = h := by
  simp [handleAt, handleBits, List.append_assoc]

@[simp] theorem field_handleBits_skip {h : Handle} {off w : Nat} {bs : List Bool} (hoff : 9 ≤ off) :
    field (handleBits h ++ bs) off w = field bs (off - 9) w := by
  rw [field_append_right (by simpa using hoff), handleBits_length]

theorem handleAt_append_right {as bs : List Bool} {off : Nat} (h : as.length ≤ off) :
    handleAt (as ++ bs) off = handleAt bs (off - as.length) := by
  rw [handleAt, handleAt, field_append_right h, field_append_right (by omega), Nat.sub_add_comm h]

@[simp] theorem Hop.bits_length (h : Hop) : h.bits.length = 14 := by simp [Hop.bits]

@[simp] theorem hopsBits_length (hops : List Hop) : (hopsBits hops).length = 14 * hops.length := by
  induction hops with
  | nil => rfl
  | cons h hs ih => simp [hopsBits, ih]; omega

theorem hopsAt_append_right {as bs : List Bool} {off n : Nat} (h : as.length ≤ off) :
    hopsAt (as ++ bs) off n = hopsAt bs (off - as.length) n := by
  induction n generalizing off with
  | zero => rfl
  | succ n ih =>
    rw [hopsAt, hopsAt, field_append_right h, field_append_right (by omega), field_append_right (by omega),
      ih (by omega), Nat.sub_add_comm h, Nat.sub_add_comm h, Nat.sub_add_comm h]

@[simp] theorem hopsAt_append (hops : List Hop) (bs : List Bool) :
    hopsAt (hopsBits hops ++ bs) 0 hops.length = hops := by
  induction hops with
  | nil => rfl
  | cons h hs ih =>
    have hrest : hopsAt (h.bits ++ (hopsBits hs ++ bs)) 14 hs.length = hs := by
      rw [hopsAt_append_right (by simp), Hop.bits_length, ih]
    rw [List.length_cons, hopsAt, hopsBits, List.append_assoc, hrest]
    simp [Hop.bits, List.append_assoc]

@[simp] theorem targetAt_append (t : Target) (bs : List Bool) : targetAt (t.bits ++ bs) = t := by
  obtain ⟨all, address⟩ := t
  cases all <;> simp [targetAt, Target.bits]

@[simp] theorem Target.bits_length (t : Target) : t.bits.length = 7 := by simp [Target.bits]

@[simp] theorem field_target_skip {t : Target} {off w : Nat} {bs : List Bool} (hoff : 7 ≤ off) :
    field (t.bits ++ bs) off w = field bs (off - 7) w := by
  rw [field_append_right (by simpa using hoff), Target.bits_length]

@[simp] theorem Subject.bits_length (u : Subject) : u.bits.length = 6 := by simp [Subject.bits]

@[simp] theorem Status.ofCode_code (st : Status) : Status.ofCode st.code = st := by cases st <;> rfl

@[simp] theorem NoticeKind.ofCode_code (k : NoticeKind) : NoticeKind.ofCode k.code = k := by cases k <;> rfl

theorem Status.code_lt (st : Status) : st.code < 4 := by cases st <;> decide

theorem NoticeKind.code_lt (k : NoticeKind) : k.code < 4 := by cases k <;> decide

@[simp] theorem toNat_beq_one (b : Bool) : (b.toNat == 1) = b := by cases b <;> rfl

/-! ### The round trip of a frame -/

/-- A frame's fields are read back from its payload, whatever fills its last byte. -/
theorem frameOfBits_payloadBits {f : Frame} (hf : f.fits) (pad : List Bool) :
    frameOfBits f.code (f.payloadBits ++ pad) = some f := by
  cases f with
  | brk h mask reason => simp [frameOfBits, Frame.code, Frame.payloadBits, List.append_assoc]
  | hot h | accept h | advance h | drop h => simp [frameOfBits, Frame.code, Frame.payloadBits]
  | cold h purpose =>
    cases purpose with
    | all => simp [frameOfBits, Frame.code, Frame.payloadBits, List.append_assoc, purposeAt]
    | step k t =>
      have ht : t.val ≠ 15 := fun h => hf (Fin.ext h)
      simp [frameOfBits, Frame.code, Frame.payloadBits, List.append_assoc, purposeAt, ht]
  | release h reason | refuse h reason => simp [frameOfBits, Frame.code, Frame.payloadBits, List.append_assoc]
  | hopstat h mask st reason wear =>
    simp [frameOfBits, Frame.code, Frame.payloadBits, List.append_assoc, st.code_lt]
  | route h lane count extended hops =>
    have hlen : min count.val 4 = hops.length := hf.symm
    have hhops : ∀ bs : List Bool, hopsAt (handleBits h ++ (natBits 3 lane ++ (natBits 4 count ++
        (extended :: bs)))) 17 hops.length = hopsAt bs 0 hops.length := fun bs => by
      have hlen : (handleBits h ++ (natBits 3 lane ++ (natBits 4 count ++ [extended]))).length = 17 := by simp
      simpa [List.append_assoc, hlen] using hopsAt_append_right (bs := bs) (n := hops.length) hlen.le
    simp [frameOfBits, Frame.code, Frame.payloadBits, List.append_assoc, hlen, hhops]
  | routeExt h hops =>
    obtain ⟨hone, hfour⟩ := hf
    have hcount : hops.length < 8 := by omega
    have hhops : ∀ bs : List Bool, hopsAt (handleBits h ++ (natBits 3 hops.length ++ bs)) 12 hops.length =
        hopsAt bs 0 hops.length := fun bs => by
      have hlen : (handleBits h ++ natBits 3 hops.length).length = 12 := by simp
      simpa [List.append_assoc, hlen] using hopsAt_append_right (bs := bs) (n := hops.length) hlen.le
    simp [frameOfBits, Frame.code, Frame.payloadBits, List.append_assoc, hcount, hhops, hone, hfour]
  | scan h throws dwell cycles => simp [frameOfBits, Frame.code, Frame.payloadBits, List.append_assoc]
  | laneHold target mask => simp [frameOfBits, Frame.code, Frame.payloadBits, List.append_assoc]
  | query target subject => simp [frameOfBits, Frame.code, Frame.payloadBits, List.append_assoc, Subject.bits]
  | report u content =>
    obtain ⟨kind, index⟩ := u
    have hdrop : ∀ k n, content.length = n →
        List.take n (List.drop 6 (natBits 2 k ++ (natBits 4 index ++ (content ++ pad)))) = content := by
      rintro k n rfl
      rw [← List.append_assoc, List.drop_append_of_le_length (by simp), List.drop_eq_nil_of_le (by simp)]
      simp
    obtain ⟨rfl, hlen⟩ | ⟨rfl, hlen⟩ | ⟨rfl, hlen⟩ := hf <;>
      simp [frameOfBits, Frame.code, Frame.payloadBits, Subject.bits, List.append_assoc, hdrop _ _ hlen]
  | notice kind handle detail =>
    have hskip : ∀ (h : Handle) (bs : List Bool), handleAt (natBits 2 kind.code ++ (true :: (handleBits h ++ bs))) 3 = h :=
      fun h bs => by
        have := handleAt_append_right (as := natBits 2 kind.code ++ [true]) (bs := handleBits h ++ bs) (off := 3) (by simp)
        simpa using this
    cases handle with
    | none =>
      simp [frameOfBits, Frame.code, Frame.payloadBits, List.append_assoc, kind.code_lt]
    | some h =>
      simp [frameOfBits, Frame.code, Frame.payloadBits, List.append_assoc, kind.code_lt, hskip]
  | clearFault target | restart target => simp [frameOfBits, Frame.code, Frame.payloadBits]

/-- The payload length that is right for a frame holds its fields, and is at most 12 bytes (R77). -/
theorem payloadBits_length_le {f : Frame} (hf : f.fits) :
    f.payloadBits.length ≤ 8 * f.length ∧ f.length ≤ 12 := by
  cases f with
  | brk | hot | release | accept | refuse | hopstat | scan | advance | drop | laneHold | query | clearFault | restart =>
    simp [Frame.payloadBits, Frame.length]
  | cold h purpose => cases purpose <;> simp [Frame.payloadBits, Frame.length]
  | route h lane count extended hops =>
    have hlen : hops.length = min count.val 4 := hf
    simp only [Frame.payloadBits, Frame.length, routeLength, List.length_append, handleBits_length, natBits_length,
      hopsBits_length, List.length_singleton]
    omega
  | routeExt h hops =>
    obtain ⟨hone, hfour⟩ := hf
    simp only [Frame.payloadBits, Frame.length, routeExtLength, List.length_append, handleBits_length, natBits_length,
      hopsBits_length]
    omega
  | report u content =>
    obtain ⟨hu, hlen⟩ | ⟨hu, hlen⟩ | ⟨hu, hlen⟩ := hf <;> simp [Frame.payloadBits, Frame.length, hu, hlen]
  | notice kind handle detail => cases handle <;> simp [Frame.payloadBits, Frame.length]

theorem Frame.cls_lt (f : Frame) : f.cls < 4 := by cases f <;> simp [Frame.cls]

theorem Frame.code_lt (f : Frame) : f.code < 32 := by cases f <;> simp [Frame.code]

/-- Settles O52: the payload holds the fields and the fill of its last byte, and reading takes the fields back. -/
theorem frameRoundTrip : Obligations.FrameRoundTrip := by
  intro a f hf
  obtain ⟨hlen, hmax⟩ := payloadBits_length_le hf
  have hpayload : (f.toRaw a).payload = bitsBytes f.length f.payloadBits := rfl
  have hcode : (f.toRaw a).kind.toNat = f.code := by
    simp [Frame.toRaw, Nat.mod_eq_of_lt f.code_lt]
  have hcls : (f.toRaw a).cls.toNat = f.cls := by
    simp [Frame.toRaw, Nat.mod_eq_of_lt f.cls_lt]
  have hcrc : (f.toRaw a).crc = rawCrc (f.toRaw a) := by simp only [Frame.toRaw, rawCrc, rawBits]
  refine ⟨?_, ?_, hcrc, ?_⟩
  · rw [Frame.ofRaw, hcode, hpayload, bytesBits_bitsBytes _ _ hlen, frameOfBits_payloadBits hf]
    simp [hcls]
  · simp [Frame.toRaw]
  · rw [hpayload, bitsBytes_length]
    exact hmax

/-! ### What a receiver takes fits -/

@[simp] theorem hopsAt_length (bs : List Bool) (off n : Nat) : (hopsAt bs off n).length = n := by
  induction n generalizing off with
  | zero => rfl
  | succ n ih => simp [hopsAt, ih]

/-- A frame that passes a receiver's checks of its form has fields that fit its layout (R77, R80). -/
theorem ofRaw_fits {f : RawFrame} {x : Frame} (h : Frame.ofRaw f = some x) : x.fits := by
  unfold Frame.ofRaw at h
  split at h
  next y hy =>
    split at h
    next hform =>
      cases h
      have hbits : (bytesBits f.payload).length = 8 * x.length := by rw [bytesBits_length, hform.2]
      generalize bytesBits f.payload = bs at hy hbits
      unfold frameOfBits at hy
      dsimp only at hy
      split at hy
      case h_3 =>
        cases hy
        unfold purposeAt
        split
        next => trivial
        next hne =>
          intro heq
          have hmod : (Fin.ofNat 16 (field bs 12 4)).val = field bs 12 4 := Nat.mod_eq_of_lt (field_lt bs 12 4)
          exact hne (hmod.symm.trans (congrArg Fin.val heq))
      case h_8 =>
        cases hy
        have hmod : (Fin.ofNat 16 (field bs 12 4)).val = field bs 12 4 := Nat.mod_eq_of_lt (field_lt bs 12 4)
        simp only [Frame.fits, hopsAt_length, hmod]
      case h_9 =>
        split at hy
        next hcount => cases hy; simpa only [Frame.fits, hopsAt_length] using hcount
        next => cases hy
      case h_15 =>
        split at hy <;> cases hy <;> simp_all [Frame.fits, Frame.length]
      case h_19 => cases hy
      all_goals cases hy; trivial
    next => cases h
  next => cases h

end Sys2Proof.Machine
end

section
/-!
PROOFS. The anchor unit (section 8): the changes there are of a slot and its gate output, and the laws of a slot
that each of them keeps.
-/

namespace Sys2Proof.Machine

/-! ### The laws of one slot and its gate -/

/-- The law of scans at one slot (R136, R138, R146). -/
def Slot.scanLaw (sl : Slot) : Prop :=
  ∀ sc, sl.scan = some sc → inSet sc.throws sc.current = true ∧ setHolds sc.throws sl.inFlight = true

/-- The law of the ready set at one slot (R118, R152). -/
def Slot.readyLaw (sl : Slot) : Prop := sl.state = .hot ∨ sl.state = .held → sl.full = true

/-- The law of the hop list at one slot (R114). -/
def Slot.hopsLaw (sl : Slot) : Prop := sl.state ≠ .idle → 1 ≤ sl.hops.length ∧ sl.hops.length ≤ 8

/-- The law of the step throw at one slot (R114). -/
def Slot.stepLaw (sl : Slot) : Prop := ∀ k, sl.stepThrow = some k → k.val < 12

/-- The law of a scan's counts at one slot (R136). -/
def Slot.countsLaw (sl : Slot) : Prop := ∀ sc, sl.scan = some sc → sc.countsSafe

/-- A change of a slot and its gate output. `running` says that the node is RUNNING, and `fits` that the frames it
holds fit their layouts: the first is asked where a gate opens, the second where a path is taken from a ROUTE. -/
inductive SlotMove (running fits : Prop) : Slot × Bool → Slot × Bool → Prop
  | elapse (r : Nat) {sl : Slot} {b : Bool} : SlotMove running fits (sl, b) (sl.elapse r, b)
  | stop {sl : Slot} {b : Bool} : SlotMove running fits (sl, b) (sl.stopTimers, false)
  | clear {sl : Slot} {b : Bool} : SlotMove running fits (sl, b) (.idle, false)
  | released {sl : Slot} {b : Bool} (h : sl.state = .releasing) : SlotMove running fits (sl, b) (.idle, b)
  | collect (setup : Nat) (hops : List Hop) {sl : Slot} {b : Bool} (h : sl.state = .idle)
      (hhops : fits → 1 ≤ hops.length ∧ hops.length ≤ 8) :
      SlotMove running fits (sl, b) (.collect setup hops, b)
  | release (r : Reason) {sl : Slot} {b : Bool}
      (h : sl.state = .collecting ∨ sl.state = .stepping ∨ sl.state = .quenching) :
      SlotMove running fits (sl, b) ({ sl with
        state := .releasing, timer := none, quenchTimer := none, purpose := none, stepThrow := none
        releaseReason := some r }, b)
  | quenchHot (q : Nat) (r : Reason) {sl : Slot} {b : Bool} (h : sl.state = .hot) :
      SlotMove running fits (sl, b) (sl.quenchForRelease q r, false)
  | quenchHeld (q : Nat) (r : Reason) {sl : Slot} {b : Bool} (h : sl.state = .held) :
      SlotMove running fits (sl, b) (sl.quenchForRelease q r, b)
  | endStep (r : Reason) {sl : Slot} {b : Bool} (h : sl.state = .quenching) (hp : sl.purpose = some .step) :
      SlotMove running fits (sl, b)
        ({ sl with purpose := some .release, stepThrow := none, releaseReason := some r }, b)
  | hold {sl : Slot} {b : Bool} (h : sl.state = .hot) :
      SlotMove running fits (sl, b) ({ sl with state := .held, quenchTimer := none, purpose := none }, false)
  | stopResume {sl : Slot} {b : Bool} (h : sl.state = .held) :
      SlotMove running fits (sl, b) ({ sl with quenchTimer := none, purpose := none }, b)
  | startResume (q : Nat) {sl : Slot} {b : Bool} (h : sl.state = .held) :
      SlotMove running fits (sl, b) ({ sl with quenchTimer := some q, purpose := some .resume }, b)
  | takeReady (mask : HopMask) {sl : Slot} {b : Bool} (h : sl.state = .collecting ∨ sl.state = .stepping) :
      SlotMove running fits (sl, b) (sl.takeReady mask, b)
  | holdReady {sl : Slot} {b : Bool} (h : sl.state = .collecting ∨ sl.state = .stepping)
      (hfull : sl.full = true) : SlotMove running fits (sl, b) ({ sl with state := .held, timer := none }, b)
  | opens {sl : Slot} {b : Bool} (hr : running)
      (h : (sl.state = .collecting ∨ sl.state = .stepping) ∧ sl.full = true ∨ sl.state = .held) :
      SlotMove running fits (sl, b)
        ({ sl with state := .hot, timer := none, quenchTimer := none, purpose := none }, true)
  | dropScan {sl : Slot} {b : Bool} (h : sl.state ≠ .idle) : SlotMove running fits (sl, b) ({ sl with scan := none }, b)
  | newScan (S : ThrowSet) (d k : Nat) {sl : Slot} {b : Bool} (h : sl.state ≠ .idle) (hd : d ≤ Config.countMax)
      (hk : k ≤ Config.countMax) (hok : sl.scanOk S = true) :
      SlotMove running fits (sl, b) ({ sl with scan := some (sl.newScan S d k) }, b)
  | rescan (sc sc' : Scan) {sl : Slot} {b : Bool} (h : sl.state ≠ .idle) (hsc : sl.scan = some sc)
      (hthrows : sc'.throws = sc.throws) (hcurrent : sc'.current = sc.current)
      (hcounts : sc.countsSafe → sc'.countsSafe) :
      SlotMove running fits (sl, b) ({ sl with scan := some sc' }, b)
  | step (q : Nat) (sc sc' : Scan) (t : Throw) {sl : Slot} {b : Bool} (h : sl.state = .hot) (hsc : sl.scan = some sc)
      (hthrows : sc'.throws = sc.throws) (hcurrent : sc'.current = sc.current)
      (hcounts : sc.countsSafe → sc'.countsSafe) (hin : inSet sc.throws t = true) (ht : t.val < 12) :
      SlotMove running fits (sl, b) ({ sl with
        state := .quenching, quenchTimer := some q, purpose := some .step, stepThrow := some t
        scan := some sc' }, false)
  | enterStepping (setup : Nat) (t : Throw) {sl : Slot} {b : Bool} (h : sl.state = .quenching)
      (hp : sl.purpose = some .step) (ht : sl.stepThrow = some t) :
      SlotMove running fits (sl, b) (sl.enterStepping setup t, b)

/-! ### Facts about hop lists, ready sets and throws in flight -/

@[simp] theorem setLastThrow_length (t : Throw) (hops : List Hop) :
    (setLastThrow t hops).length = hops.length := by
  fun_induction setLastThrow t hops <;> simp_all

theorem setLastThrow_getLast? (t : Throw) (hops : List Hop) :
    (setLastThrow t hops).getLast? = hops.getLast?.map (fun hp => { hp with throw := t }) := by
  fun_induction setLastThrow t hops with
  | case1 => rfl
  | case2 h => rfl
  | case3 h h' hs ih =>
    rw [List.getLast?_cons, ih, List.getLast?_cons_cons]
    cases hlast : (h' :: hs).getLast? with
    | none => simp at hlast
    | some last => rfl

@[simp] theorem Slot.elapse_inFlight (sl : Slot) (r : Nat) : (sl.elapse r).inFlight = sl.inFlight := rfl

theorem setHolds_none (S : ThrowSet) : setHolds S none = true := rfl

/-- A slot that is neither QUENCHING nor STEPPING has no step in flight (R137). -/
theorem Slot.inFlight_eq_none {sl : Slot} (hq : sl.state ≠ .quenching) (hs : sl.state ≠ .stepping) :
    sl.inFlight = none := by
  unfold Slot.inFlight
  split <;> first | rfl | contradiction

/-- Of a slot in STEPPING the throw in flight is that of its last hop (R137). -/
theorem Slot.inFlight_stepping {sl : Slot} (h : sl.state = .stepping) : sl.inFlight = sl.lastThrow := by
  simp [Slot.inFlight, h]

theorem Slot.enterStepping_lastThrow (setup : Nat) (t : Throw) (sl : Slot) :
    (sl.enterStepping setup t).lastThrow = sl.lastThrow.map (fun _ => t) := by
  simp only [Slot.lastThrow, Slot.enterStepping, setLastThrow_getLast?, Option.map_map]
  rfl

/-! ### What a change keeps -/

section
variable {running fits : Prop} {sl sl' : Slot} {b b' : Bool}

/-- A gate is open only at a HOT slot of a RUNNING node (R115). -/
theorem SlotMove.gate (h : SlotMove running fits (sl, b) (sl', b'))
    (hs : b = true → running ∧ sl.state = .hot) : b' = true → running ∧ sl'.state = .hot := by
  intro hb'
  cases h with
  | elapse r => exact hs hb'
  | opens hr => exact ⟨hr, rfl⟩
  | dropScan | newScan | rescan => exact hs hb'
  | stop | clear | quenchHot | hold | step => cases hb'
  | released h | collect _ _ h | quenchHeld _ _ h | endStep _ h | stopResume h | startResume _ h
  | enterStepping _ _ h => simp [h] at hs; simp [hs] at hb'
  | release _ h | takeReady _ h | holdReady h =>
    have hstate := (hs hb').2
    simp [hstate] at h

theorem SlotMove.readyLaw (h : SlotMove running fits (sl, b) (sl', b')) (hs : sl.readyLaw) : sl'.readyLaw := by
  intro hstate
  cases h with
  | elapse r => exact hs hstate
  | stop => exact hs hstate
  | dropScan | newScan | rescan => exact hs hstate
  | hold h => exact hs (.inl h)
  | stopResume h | startResume _ h => exact hs (.inr h)
  | holdReady h hfull => exact hfull
  | opens hr h => exact h.elim And.right fun h => hs (.inr h)
  | endStep _ h => simp [h] at hstate
  | takeReady mask h => exact absurd hstate (by rcases h with h | h <;> simp [Slot.takeReady, h])
  | clear | released | collect | release | quenchHot | quenchHeld | step | enterStepping =>
    rcases hstate with hstate | hstate <;> cases hstate

theorem SlotMove.scanLaw (h : SlotMove running fits (sl, b) (sl', b')) (hs : sl.scanLaw) : sl'.scanLaw := by
  intro sc hsc
  cases h with
  | elapse r => exact hs sc hsc
  | clear | released | collect | dropScan => cases hsc
  | rescan sc₀ sc' h h₀ hthrows hcurrent =>
    cases hsc
    rw [hthrows, hcurrent]
    exact hs sc₀ h₀
  | newScan S d k h hd hk hok =>
    cases hsc
    simp only [Slot.scanOk, Bool.and_eq_true] at hok
    exact ⟨hok.1.2, hok.2⟩
  | step q sc₀ sc' t h h₀ hthrows hcurrent hcounts hin =>
    cases hsc
    rw [hthrows, hcurrent]
    exact ⟨(hs sc₀ h₀).1, hin⟩
  | enterStepping setup t h hp ht =>
    have hin : setHolds sc.throws (some t) = true := by
      simpa [Slot.inFlight, h, hp, ht] using (hs sc hsc).2
    refine ⟨(hs sc hsc).1, ?_⟩
    rw [Slot.inFlight_stepping rfl, Slot.enterStepping_lastThrow]
    cases sl.lastThrow with
    | none => rfl
    | some _ => exact hin
  | takeReady mask h =>
    have hin : ∀ (sc : Scan), sl.scan = some sc → setHolds sc.throws (sl.takeReady mask).inFlight = true :=
      fun sc hsc => (hs sc hsc).2
    cases hback : sl.state == .stepping && mask.getLsbD sl.lastHop with
    | false =>
      have hsame : (sl.takeReady mask).scan = sl.scan := by
        simp only [Slot.takeReady, hback, Bool.false_eq_true, if_false]
      exact ⟨(hs sc (hsame ▸ hsc)).1, hin sc (hsame ▸ hsc)⟩
    | true =>
      simp only [Slot.takeReady, hback, if_true] at hsc
      obtain ⟨sc₀, h₀, rfl⟩ := Option.map_eq_some_iff.1 hsc
      refine ⟨?_, hin sc₀ h₀⟩
      have hstep : sl.state = .stepping := by simp_all
      have hflight := (hs sc₀ h₀).2
      rw [Slot.inFlight_stepping hstep] at hflight
      cases hlast : sl.lastThrow with
      | none => exact (hs sc₀ h₀).1
      | some t => rw [hlast] at hflight; exact hflight
  | stop =>
    refine ⟨(hs sc hsc).1, ?_⟩
    have hflight := (hs sc hsc).2
    unfold Slot.inFlight at hflight ⊢
    split <;> simp_all [Slot.stopTimers, Slot.lastThrow, setHolds]
  | endStep _ h => exact ⟨(hs sc hsc).1, by simp [Slot.inFlight, h, setHolds]⟩
  | stopResume h | startResume _ h =>
    exact ⟨(hs sc hsc).1, by rw [Slot.inFlight_eq_none] <;> simp [h, setHolds]⟩
  | release | quenchHot | quenchHeld | hold | holdReady | opens => exact ⟨(hs sc hsc).1, rfl⟩

theorem SlotMove.countsLaw (h : SlotMove running fits (sl, b) (sl', b')) (hs : sl.countsLaw) : sl'.countsLaw := by
  intro sc hsc
  cases h with
  | clear | released | collect | dropScan => cases hsc
  | rescan _ _ _ h₀ _ _ hcounts | step _ _ _ _ _ h₀ _ _ hcounts => cases hsc; exact hcounts (hs _ h₀)
  | newScan _ _ _ _ hd hk =>
    cases hsc
    refine ⟨hd, hd, hk, hk, ?_⟩
    cases hold : sl.scan with
    | none => simp [Slot.newScan, hold]
    | some sc₀ => simpa [Slot.newScan, hold] using (hs sc₀ hold).overrun
  | takeReady mask h =>
    simp only [Slot.takeReady] at hsc
    split at hsc
    · obtain ⟨sc₀, h₀, rfl⟩ := Option.map_eq_some_iff.1 hsc
      obtain ⟨hr, hd, hk, hc, ho⟩ := hs sc₀ h₀
      exact ⟨hr, hd, hk, hc, ho⟩
    · exact hs sc hsc
  | elapse | stop | release | quenchHot | quenchHeld | endStep | hold | stopResume | startResume | holdReady
  | opens | enterStepping => exact hs sc hsc

theorem SlotMove.hopsLaw (h : SlotMove running fits (sl, b) (sl', b')) (hfits : fits) (hs : sl.hopsLaw) :
    sl'.hopsLaw := by
  intro hstate
  cases h with
  | clear | released => exact absurd rfl hstate
  | collect _ _ _ hhops => exact hhops hfits
  | elapse | stop | dropScan | newScan | rescan | endStep | stopResume | startResume | takeReady =>
    exact hs hstate
  | release _ h => exact hs (by rcases h with h | h | h <;> simp [h])
  | holdReady h => exact hs (by rcases h with h | h <;> simp [h])
  | opens _ h => exact hs (by rcases h with ⟨h | h, -⟩ | h <;> simp [h])
  | quenchHot _ _ h | quenchHeld _ _ h | hold h | step _ _ _ _ h => exact hs (by simp [h])
  | enterStepping setup t h =>
    simp only [Slot.enterStepping, setLastThrow_length]
    exact hs (by simp [h])

theorem SlotMove.stepLaw (h : SlotMove running fits (sl, b) (sl', b')) (hs : sl.stepLaw) : sl'.stepLaw := by
  intro k hk
  cases h with
  | step _ _ _ _ _ _ _ _ _ _ ht => cases hk; exact ht
  | stop | clear | released | collect | release | quenchHot | quenchHeld | endStep | enterStepping => cases hk
  | elapse | hold | stopResume | startResume | takeReady | holdReady | opens | dropScan | newScan | rescan =>
    exact hs k hk

theorem Slot.idle_slotSafe : Slot.idle.slotSafe := by
  constructor <;> simp [Slot.idle]

theorem SlotMove.slotSafe (h : SlotMove running fits (sl, b) (sl', b')) (hs : sl.slotSafe) : sl'.slotSafe := by
  obtain ⟨hidle, htimer, hquench, hpurpose, hresume, hothers, hstep, hready⟩ := hs
  cases h with
  | clear | released => exact Slot.idle_slotSafe
  | elapse r =>
    refine ⟨fun h => ?_, ?_, ?_, ?_, hresume, hothers, hstep, hready⟩
    · rw [hidle h]; rfl
    all_goals simp only [Slot.elapse, Option.isSome_map]; assumption
  | stop =>
    refine ⟨fun h => ?_, nofun, nofun, by simp [Slot.stopTimers], nofun, nofun, by simp [Slot.stopTimers], hready⟩
    rw [hidle h]; rfl
  | collect => constructor <;> simp [Slot.collect, Slot.idle]
  | release r h =>
    exact ⟨nofun, nofun, nofun, by simp, nofun, nofun, by simp, hready⟩
  | quenchHot q r h | quenchHeld q r h =>
    exact ⟨nofun, fun ht => by simp [h] at htimer; simp [Slot.quenchForRelease, htimer] at ht,
      fun _ => .inl rfl, by simp [Slot.quenchForRelease], nofun, fun _ => rfl,
      by simp [Slot.quenchForRelease], hready⟩
  | endStep r h hp =>
    exact ⟨fun h' => by simp [h] at h', htimer, hquench, by simpa [hp] using hpurpose, nofun, fun _ => h,
      by simp, hready⟩
  | hold h =>
    exact ⟨nofun, fun ht => by simp [h] at htimer; simp [htimer] at ht, nofun, by simp, nofun, by simp,
      by simp_all, hready⟩
  | stopResume h =>
    exact ⟨fun h' => by simp [h] at h', fun ht => by simp [h] at htimer; simp [htimer] at ht, nofun, by simp, nofun,
      by simp, by simp_all, hready⟩
  | startResume q h =>
    exact ⟨fun h' => by simp [h] at h', fun ht => by simp [h] at htimer; simp [htimer] at ht, fun _ => .inr h,
      by simp, fun _ => h, by simp, by simp_all, hready⟩
  | takeReady mask h =>
    refine ⟨fun h' => ?_, htimer, hquench, hpurpose, hresume, hothers, hstep, ?_⟩
    · rcases h with h | h <;> exact absurd (h.symm.trans h') nofun
    · change (sl.ready ||| mask &&& fullMask sl.count) &&& ~~~(fullMask sl.count) = 0
      rw [BitVec.and_or_distrib_right, hready]
      simp [BitVec.and_assoc]
  | holdReady h =>
    have hnone : sl.quenchTimer = none := by rcases h with h | h <;> simpa [h] using hquench
    exact ⟨nofun, nofun, by simp [hnone], hpurpose, fun _ => rfl, by simp_all, hstep, hready⟩
  | opens hr h =>
    have hnone : sl.stepThrow = none := by rcases h with ⟨h | h, -⟩ | h <;> simp_all
    exact ⟨nofun, nofun, nofun, by simp, nofun, by simp, by simp [hnone], hready⟩
  | dropScan h | newScan _ _ _ h | rescan _ _ h =>
    exact ⟨fun h' => absurd h' h, htimer, hquench, hpurpose, hresume, hothers, hstep, hready⟩
  | step q sc sc' t h =>
    exact ⟨nofun, fun ht => by simp [h] at htimer; simp [htimer] at ht, fun _ => .inl rfl, by simp, nofun,
      fun _ => rfl, by simp, hready⟩
  | enterStepping setup t h hp ht =>
    refine ⟨nofun, fun _ => .inr rfl, nofun, by simp [Slot.enterStepping], nofun, by simp [Slot.enterStepping],
      by simp [Slot.enterStepping], ?_⟩
    change sl.ready &&& ~~~(hopBit sl.lastHop) &&& ~~~(fullMask (setLastThrow t sl.hops).length) = 0
    rw [setLastThrow_length, BitVec.and_assoc, BitVec.and_comm (~~~_), ← BitVec.and_assoc]
    change sl.ready &&& ~~~(fullMask sl.count) &&& _ = 0
    rw [hready]
    exact BitVec.zero_and

end

end Sys2Proof.Machine
end

section
/-!
PROOFS. The laws of the anchor unit, of the frames held, of the bounds and of the drive reasons, and the lock of the
fault record: what each shared operation keeps of them.
-/

namespace Sys2Proof.Machine

/-! ### The answer of a command -/

/-- A command on `s` answers a next state that stands to `s` as `R` says. -/
def Leads (R : State → State → Prop) (s : State) (o : Host.Outcome State Fault Refusal) : Prop :=
  ∃ t, o = .next t ∧ R s t

theorem Leads.next {R : State → State → Prop} {s t : State} (h : R s t) : Leads R s (.next t) := ⟨t, rfl, h⟩

theorem Leads.of_next {R : State → State → Prop} {s t : State} {o : Host.Outcome State Fault Refusal}
    (h : Leads R s o) (ho : o = .next t) : R s t := by
  obtain ⟨u, rfl, hu⟩ := h
  cases ho
  exact hu

/-- A frame taken whose effect hangs on a condition. -/
theorem Leads.next_ite {R : State → State → Prop} {s t u : State} {p : Prop} [Decidable p]
    (ht : p → R s t) (hu : ¬p → R s u) : Leads R s (.next (if p then t else u)) := by
  split
  next h => exact .next (ht h)
  next h => exact .next (hu h)

/-! ### The laws that a step keeps -/

/-- `t` keeps of `s` the queue of commands, the laws of the anchor unit, of the frames held, of the bounds and of the
drive reasons. -/
structure KeepsLaws (s t : State) : Prop where
  pending : t.pending = s.pending
  gates   : s.gatesSafe → t.gatesSafe
  ready   : s.readySafe → t.readySafe
  slots   : s.slotsSafe → t.slotsSafe
  scans   : s.scanSafe → t.scanSafe
  frames  : s.framesSafe → t.framesSafe
  bounds  : s.bounded → t.bounded
  drives  : s.drivesSafe → t.drivesSafe
  ext     : s.extensionsSafe → t.extensionsSafe

theorem KeepsLaws.refl (s : State) : KeepsLaws s s := ⟨rfl, id, id, id, id, id, id, id, id⟩

theorem KeepsLaws.trans {s t u : State} (h : KeepsLaws s t) (k : KeepsLaws t u) : KeepsLaws s u where
  pending := k.pending.trans h.pending
  gates := k.gates ∘ h.gates
  ready := k.ready ∘ h.ready
  slots := k.slots ∘ h.slots
  scans := k.scans ∘ h.scans
  frames := k.frames ∘ h.frames
  bounds := k.bounds ∘ h.bounds
  drives := k.drives ∘ h.drives
  ext := k.ext ∘ h.ext

/-- A fault held in the record of `s` is held in that of `t`, and no fewer later ones are counted (R155). -/
def LocksFault (s t : State) : Prop :=
  s.fault.later ≤ Config.laterMax → ∀ k, s.fault.kind = some k →
    t.fault.kind = some k ∧ t.fault.location = s.fault.location ∧ t.fault.handle = s.fault.handle ∧
      s.fault.later ≤ t.fault.later

theorem LocksFault.of_eq {s t : State} (h : t.fault = s.fault) : LocksFault s t :=
  fun _ _ hk => by rw [h]; exact ⟨hk, rfl, rfl, Nat.le_refl _⟩

theorem LocksFault.trans {s t u : State} (h : LocksFault s t) (k : LocksFault t u)
    (hbound : s.fault.later ≤ Config.laterMax → t.fault.later ≤ Config.laterMax) : LocksFault s u := by
  intro hb f hf
  obtain ⟨hkind, hloc, hhandle, hlater⟩ := h hb f hf
  obtain ⟨hkind', hloc', hhandle', hlater'⟩ := k (hbound hb) f hkind
  exact ⟨hkind', hloc'.trans hloc, hhandle'.trans hhandle, hlater.trans hlater'⟩

/-- `t` keeps of `s` the laws, the bound of the count of later faults and the lock of the fault record. -/
structure KeepsNode (s t : State) : Prop extends KeepsLaws s t where
  later  : s.fault.later ≤ Config.laterMax → t.fault.later ≤ Config.laterMax
  locked : LocksFault s t

theorem KeepsNode.refl (s : State) : KeepsNode s s := ⟨.refl s, id, .of_eq rfl⟩

theorem KeepsNode.trans {s t u : State} (h : KeepsNode s t) (k : KeepsNode t u) : KeepsNode s u :=
  ⟨h.toKeepsLaws.trans k.toKeepsLaws, k.later ∘ h.later, h.locked.trans k.locked h.later⟩

/-! ### Changes of one part of the state -/

/-- What the transmit side holds of frames fits (R77, R159, R172). -/
structure State.txFits (s : State) : Prop where
  queued  : ∀ e ∈ s.txQueue, ∀ f, e.item = .frame f → f.fits
  waiting : ∀ r, s.restart = some r → ∀ f ∈ r.waiting, f.fits
  subject : ∀ u, s.reportSlot = some u → u.kind ≠ 3

theorem State.framesSafe.txFits {s : State} (h : s.framesSafe) : s.txFits := ⟨h.queued, h.waiting, h.subject⟩

/-- `t` is `s` but for the transmit side, whose bounds hold as before (R86, R88, R155), with a restart under way as
before and the fault record locked. -/
structure TxKept (s t : State) : Prop where
  touched : TxTouched s t
  tx      : s.txQueue.length ≤ Config.txCapacity → t.txQueue.length ≤ Config.txCapacity
  drops   : s.txDrops ≤ Config.countMax → t.txDrops ≤ Config.countMax
  later   : s.fault.later ≤ Config.laterMax → t.fault.later ≤ Config.laterMax
  restart : t.restart.isSome = s.restart.isSome
  locked  : LocksFault s t

theorem TxKept.refl (s : State) : TxKept s s := ⟨.refl s, id, id, id, rfl, .of_eq rfl⟩

theorem TxKept.trans {s t u : State} (h : TxKept s t) (k : TxKept t u) : TxKept s u :=
  ⟨h.touched.trans k.touched, k.tx ∘ h.tx, k.drops ∘ h.drops, k.later ∘ h.later, k.restart.trans h.restart,
    h.locked.trans k.locked h.later⟩

/-- A change of the transmit side after changes that keep the laws: what it queues has to fit only where the frames
that the node held at first do. -/
theorem KeepsNode.trans_tx {s u t : State} (hu : KeepsNode s u) (h : TxKept u t)
    (hfits : s.framesSafe → u.txFits → t.txFits) : KeepsNode s t := by
  have hslots : ∀ g, t.slot g = u.slot g := fun g => State.slot_congr h.touched.slots g
  have hgates : ∀ g, t.gate g = u.gate g := fun g => State.gate_congr h.touched.gateOut g
  obtain ⟨⟨hpending, gates, ready, slots, scans, frames, bounds, drives, ext⟩, later, locked⟩ := hu
  refine ⟨⟨h.touched.pending.trans hpending, fun hs g hg => ?_, fun hs g => ?_, fun hs g => ?_, fun hs g => ?_,
    fun hs => ?_, fun hs => ?_, fun hs => ?_, fun hs => ?_⟩, h.later ∘ later, locked.trans h.locked later⟩
  · rw [hslots, h.touched.nodeState]; exact gates hs g (hgates g ▸ hg)
  · rw [hslots]; exact ready hs g
  · rw [hslots]; exact slots hs g
  · rw [hslots]; exact scans hs g
  · have hu := frames hs
    obtain ⟨hq, hw, hsub⟩ := hfits hs hu.txFits
    exact ⟨h.touched.rxQueue ▸ hu.received, hq, h.touched.txPhase ▸ hu.sending, hw, hsub,
      h.touched.txPhase ▸ hu.query, h.touched.extTable ▸ hu.ext, fun g => hslots g ▸ hu.hops g,
      fun g => hslots g ▸ hu.step g⟩
  · have hu := bounds hs
    exact ⟨h.tx hu.tx, h.touched.rxQueue ▸ hu.rx, h.touched.extTable ▸ hu.ext, h.touched.extTable ▸ hu.senders,
      h.touched.badFrames ▸ hu.bad, h.drops hu.drops, h.later hu.later, fun g => hslots g ▸ hu.scans g⟩
  · have hu := drives hs
    exact ⟨h.restart ▸ h.touched.nodeState ▸ hu.sequence, h.touched.restartDrive ▸ h.touched.nodeState ▸ hu.restart,
      h.touched.startUpDrive ▸ h.touched.nodeState ▸ hu.startUp⟩
  · unfold State.extensionsSafe; rw [h.touched.nodeState, h.touched.extTable]; exact ext hs

/-- A change of the transmit side keeps the laws, where what it queues fits. -/
theorem KeepsNode.of_tx {s t : State} (h : TxKept s t) (hfits : s.txFits → t.txFits) : KeepsNode s t :=
  (KeepsNode.refl s).trans_tx h fun _ => hfits

/-- A change of fields that the laws do not speak of keeps them. -/
theorem KeepsNode.of_eq {s t : State} (h : (t.pending, t.nodeState, t.slots, t.gateOut, t.rxQueue, t.txQueue,
    t.txPhase, t.extTable, t.badFrames, t.txDrops, t.reportSlot, t.startUpDrive, t.restartDrive, t.fault, t.restart)
    = (s.pending, s.nodeState, s.slots, s.gateOut, s.rxQueue, s.txQueue, s.txPhase, s.extTable, s.badFrames,
    s.txDrops, s.reportSlot, s.startUpDrive, s.restartDrive, s.fault, s.restart)) : KeepsNode s t := by
  simp only [Prod.mk.injEq] at h
  obtain ⟨pending, nodeState, slots, gateOut, rxQueue, txQueue, txPhase, extTable, badFrames, txDrops, reportSlot,
    startUpDrive, restartDrive, fault, restart⟩ := h
  have hslots : ∀ g, t.slot g = s.slot g := fun g => State.slot_congr slots g
  have hgates : ∀ g, t.gate g = s.gate g := fun g => State.gate_congr gateOut g
  refine ⟨⟨pending, fun hs g hg => ?_, fun hs g => ?_, fun hs g => ?_, fun hs g => ?_, fun hs => ?_, fun hs => ?_,
    fun hs => ?_, fun hs => ?_⟩, fault ▸ id, .of_eq fault⟩
  · rw [hslots, nodeState]; exact hs g (hgates g ▸ hg)
  · rw [hslots]; exact hs g
  · rw [hslots]; exact hs g
  · rw [hslots]; exact hs g
  · exact ⟨rxQueue ▸ hs.received, txQueue ▸ hs.queued, txPhase ▸ hs.sending, restart ▸ hs.waiting,
      reportSlot ▸ hs.subject, txPhase ▸ hs.query, extTable ▸ hs.ext, fun g => hslots g ▸ hs.hops g,
      fun g => hslots g ▸ hs.step g⟩
  · exact ⟨txQueue ▸ hs.tx, rxQueue ▸ hs.rx, extTable ▸ hs.ext, extTable ▸ hs.senders, badFrames ▸ hs.bad,
      txDrops ▸ hs.drops, fault ▸ hs.later, fun g => hslots g ▸ hs.scans g⟩
  · exact ⟨restart ▸ nodeState ▸ hs.sequence, restartDrive ▸ nodeState ▸ hs.restart,
      startUpDrive ▸ nodeState ▸ hs.startUp⟩
  · unfold State.extensionsSafe; rw [nodeState, extTable]; exact hs

/-- A change of the arbiter and its elements touches none of the fields that these laws speak of. -/
theorem KeepsNode.of_arb {s t : State} (h : ArbTouched s t) : KeepsNode s t := by
  obtain ⟨_, _, _, _, _, rfl⟩ := h
  exact .of_eq rfl

/-! ### Slots and gates -/

/-- Changes of slots and gates, each of them one there is, after changes that keep the laws: the hops of a path taken
have to be 1 to 8 only where the frames that the node held at first fit. -/
theorem KeepsNode.trans_slots {s u : State} (hu : KeepsNode s u) {sls : Vector Slot 8} {gts : Vector Bool 8}
    (h : ∀ g, SlotMove (u.nodeState = .running) s.framesSafe (u.slot g, u.gate g)
        (({ u with slots := sls, gateOut := gts } : State).slot g,
          ({ u with slots := sls, gateOut := gts } : State).gate g) ∨
      (({ u with slots := sls, gateOut := gts } : State).slot g = u.slot g ∧
        ({ u with slots := sls, gateOut := gts } : State).gate g = u.gate g)) :
    KeepsNode s { u with slots := sls, gateOut := gts } := by
  have lift : ∀ {P : Slot → Prop}, (∀ g sl b, SlotMove (u.nodeState = .running) s.framesSafe (u.slot g, u.gate g)
      (sl, b) → P (u.slot g) → P sl) → ∀ g, P (u.slot g) →
        P (({ u with slots := sls, gateOut := gts } : State).slot g) := by
    intro P hP g hg
    rcases h g with hmove | ⟨hsame, -⟩
    · exact hP g _ _ hmove hg
    · rw [hsame]; exact hg
  obtain ⟨⟨pending, gates, ready, slots, scans, frames, bounds, drives, ext⟩, later, locked⟩ := hu
  refine ⟨⟨pending, fun hs g hg => ?_, fun hs g => lift (P := Slot.readyLaw) (fun _ _ _ h => h.readyLaw) g (ready hs g),
    fun hs g => lift (P := Slot.slotSafe) (fun _ _ _ h => h.slotSafe) g (slots hs g),
    fun hs g => lift (P := Slot.scanLaw) (fun _ _ _ h => h.scanLaw) g (scans hs g), fun hs => ?_, fun hs => ?_,
    fun hs => ?_, ext⟩, later, locked⟩
  · rcases h g with hmove | ⟨hslot, hgate⟩
    · exact hmove.gate (gates hs g) hg
    · rw [hslot]; exact gates hs g (hgate ▸ hg)
  · have hu := frames hs
    exact ⟨hu.received, hu.queued, hu.sending, hu.waiting, hu.subject, hu.query, hu.ext,
      fun g => lift (P := Slot.hopsLaw) (fun _ _ _ h => h.hopsLaw hs) g (hu.hops g),
      fun g => lift (P := Slot.stepLaw) (fun _ _ _ h => h.stepLaw) g (hu.step g)⟩
  · have hu := bounds hs
    exact ⟨hu.tx, hu.rx, hu.ext, hu.senders, hu.bad, hu.drops, hu.later,
      fun g => lift (P := Slot.countsLaw) (fun _ _ _ h => h.countsLaw) g (hu.scans g)⟩
  · have hu := drives hs
    exact ⟨hu.sequence, hu.restart, hu.startUp⟩

/-- One slot and its gate change. -/
theorem KeepsNode.trans_setSlot_setGate {s u : State} (hu : KeepsNode s u) {g : Gate} {sl : Slot} {b : Bool}
    (h : SlotMove (u.nodeState = .running) s.framesSafe (u.slot g, u.gate g) (sl, b)) :
    KeepsNode s ((u.setSlot g sl).setGate g b) := by
  refine hu.trans_slots (sls := u.slots.set g sl) (gts := u.gateOut.set g b) fun g' => ?_
  change SlotMove _ _ _ (((u.setSlot g sl).setGate g b).slot g', ((u.setSlot g sl).setGate g b).gate g') ∨
    (((u.setSlot g sl).setGate g b).slot g' = _ ∧ ((u.setSlot g sl).setGate g b).gate g' = _)
  rw [State.slot_setGate, State.slot_setSlot, State.gate_setGate, State.gate_setSlot]
  by_cases hg : g' = g
  · subst hg
    rw [if_pos rfl, if_pos rfl]
    exact .inl h
  · rw [if_neg hg, if_neg hg]
    exact .inr ⟨rfl, rfl⟩

theorem KeepsNode.setSlot_setGate {s : State} {g : Gate} {sl : Slot} {b : Bool}
    (h : SlotMove (s.nodeState = .running) s.framesSafe (s.slot g, s.gate g) (sl, b)) :
    KeepsNode s ((s.setSlot g sl).setGate g b) := (KeepsNode.refl s).trans_setSlot_setGate h

/-- One slot changes, and its gate stays. -/
theorem KeepsNode.trans_setSlot {s u : State} (hu : KeepsNode s u) {g : Gate} {sl : Slot}
    (h : SlotMove (u.nodeState = .running) s.framesSafe (u.slot g, u.gate g) (sl, u.gate g)) :
    KeepsNode s (u.setSlot g sl) := by
  have hset : (u.setSlot g sl).setGate g (u.gate g) = u.setSlot g sl := by
    simp [State.setGate, State.gate, State.setSlot]
  exact hset ▸ hu.trans_setSlot_setGate h

theorem KeepsNode.setSlot {s : State} {g : Gate} {sl : Slot}
    (h : SlotMove (s.nodeState = .running) s.framesSafe (s.slot g, s.gate g) (sl, s.gate g)) :
    KeepsNode s (s.setSlot g sl) := (KeepsNode.refl s).trans_setSlot h

/-- Time passes (log entry 4). -/
theorem State.elapse_keeps (s : State) (r : Nat) : KeepsNode s (s.elapse r) := by
  refine ((KeepsNode.refl s).trans_slots (sls := (s.elapse r).slots) (gts := s.gateOut) fun g => .inl ?_).trans (.of_eq rfl)
  change SlotMove _ _ _ ((s.elapse r).slot g, s.gate g)
  rw [State.slot_elapse]
  exact .elapse r

/-! ### The transmit side: its bounds and the lock of the fault record -/

theorem State.push_txKept {s : State} (i : TxItem) (hroom : s.txQueue.length < Config.txCapacity) :
    TxKept s { s with txQueue := s.txQueue ++ [TxEntry.new i] } :=
  ⟨⟨_, _, _, _, _, _, rfl⟩, fun _ => by simpa using hroom, id, id, rfl, .of_eq rfl⟩

theorem State.fillTeardown_txKept (s : State) : TxKept s s.fillTeardown := by
  obtain ⟨q, r, h, hlen, hr, -⟩ := s.fillTeardown_eq
  rw [h]
  exact ⟨⟨_, _, _, _, _, _, rfl⟩, hlen, id, id, hr, .of_eq rfl⟩

theorem State.countDrop_txKept (s : State) : TxKept s s.countDrop :=
  ⟨s.countDrop_touches, id, fun _ => Nat.min_le_right _ _, id, rfl, .of_eq rfl⟩

theorem State.enqueueLast_txKept (s : State) (i : TxItem) : TxKept s (s.enqueueLast i) := by
  refine s.fillTeardown_txKept.trans ?_
  unfold State.enqueueLast
  dsimp only
  split
  next hroom => exact State.push_txKept i hroom
  next => exact State.countDrop_txKept _

/-- A capture fills an empty record, and otherwise only counts (R155). -/
theorem State.capture_txKept (s : State) (k : FaultKind) (loc : Option ElemNo) (h : Option Handle) :
    TxKept s (s.capture k loc h) := by
  cases hk : s.fault.kind with
  | none =>
    have hfill : TxKept s { s with fault := ⟨some k, loc, h, 0⟩ } :=
      ⟨⟨_, _, _, _, _, _, rfl⟩, id, id, fun _ => Nat.zero_le _, rfl,
        fun _ k' hk' => absurd (hk.symm.trans hk') nofun⟩
    rw [State.capture_of_none hk]
    exact hfill.trans (State.enqueueLast_txKept _ _)
  | some k' =>
    rw [State.capture_of_some hk]
    exact ⟨⟨_, _, _, _, _, _, rfl⟩, id, id, fun _ => Nat.min_le_right _ _, rfl,
      fun hb k hk => ⟨hk, rfl, rfl, Nat.le_min.2 ⟨Nat.le_succ _, hb⟩⟩⟩

theorem State.accountOwn_txKept (s : State) (a : Teardown → RestartSeq → RestartSeq) (f : Frame) :
    TxKept s (s.accountOwn a f) := by
  obtain ⟨b, r, h, hr, -⟩ := s.accountOwn_eq a f
  rw [h]
  exact ⟨⟨_, _, _, _, _, _, rfl⟩, id, id, id, hr, .of_eq rfl⟩

theorem State.settleLoss_txKept (s : State) (i : TxItem) : TxKept s (s.settleLoss i) := by
  cases i with
  | report => exact s.countDrop_txKept.trans ⟨⟨_, _, _, _, _, _, rfl⟩, id, id, id, rfl, .of_eq rfl⟩
  | frame f =>
    have hcount := s.countDrop_txKept.trans (State.accountOwn_txKept s.countDrop RestartSeq.lose f)
    unfold State.settleLoss
    dsimp only
    split
    · exact hcount.trans (State.capture_txKept _ _ _ _)
    · exact hcount

/-- A frame takes the place of another in a full queue (R88). -/
theorem State.replace_txKept {s : State} (f : Frame) {n : Nat} (hn : n < s.txQueue.length) :
    TxKept s { s with txQueue := s.txQueue.eraseIdx n ++ [TxEntry.new (.frame f)] } := by
  refine ⟨⟨_, _, _, _, _, _, rfl⟩, fun htx => ?_, id, id, rfl, .of_eq rfl⟩
  simp only [List.length_append, List.length_eraseIdx, List.length_singleton, if_pos hn]
  omega

/-- Queuing a frame, whatever room there is (R86, R88, R89). -/
theorem State.enqueue_txKept (s : State) (f : Frame) : TxKept s (s.enqueue f) := by
  refine s.fillTeardown_txKept.trans ?_
  unfold State.enqueue
  dsimp only
  split
  next hroom => exact State.push_txKept _ hroom
  next =>
    split
    next i hi => exact (State.replace_txKept f (victimIdx_lt hi)).trans (State.settleLoss_txKept _ _)
    next => exact State.settleLoss_txKept _ _

/-! ### The transmit side: what it holds fits -/

/-- An item whose frame fits its layout; a REPORT is read later (R85). -/
def TxItem.fits : TxItem → Prop
  | .frame f => f.fits
  | .report => True

theorem TxItem.fits_notice (k : NoticeKind) (h : Option Handle) (d : BitVec 5) :
    (TxItem.frame (.notice k h d)).fits := trivial

/-- Entries that are kept from a queue that fits, and one new one that fits. -/
theorem State.txFits.append {s : State} {q : List TxEntry} {i : TxItem} (hs : s.txFits) (hq : q ⊆ s.txQueue)
    (hi : i.fits) : State.txFits { s with txQueue := q ++ [TxEntry.new i] } := by
  refine ⟨fun e he f hf => ?_, hs.waiting, hs.subject⟩
  rcases List.mem_append.1 he with he | he
  · exact hs.queued e (hq he) f hf
  · cases List.mem_singleton.1 he
    obtain rfl : i = .frame f := hf
    exact hi

theorem State.txFits.fillTeardown {s : State} (hs : s.txFits) : s.fillTeardown.txFits := by
  unfold State.fillTeardown
  cases hr : s.restart with
  | none => exact hs
  | some r =>
    have hw := hs.waiting r hr
    refine ⟨fun e he f hf => ?_, fun r' hr' f hf => ?_, hs.subject⟩
    · rcases List.mem_append.1 he with he | he
      · exact hs.queued e he f hf
      · obtain ⟨f', hf', rfl⟩ := List.mem_map.1 he
        cases hf
        exact hw f (List.mem_of_mem_take hf')
    · cases hr'
      exact hw f (List.mem_of_mem_drop hf)

theorem State.txFits.countDrop {s : State} (hs : s.txFits) : s.countDrop.txFits := ⟨hs.queued, hs.waiting, hs.subject⟩

theorem State.txFits.enqueueLast {s : State} (hs : s.txFits) {i : TxItem} (hi : i.fits) :
    (s.enqueueLast i).txFits := by
  unfold State.enqueueLast
  dsimp only
  split
  · exact hs.fillTeardown.append (List.Subset.refl _) hi
  · exact hs.fillTeardown.countDrop

theorem State.txFits.capture {s : State} (hs : s.txFits) (k : FaultKind) (loc : Option ElemNo)
    (h : Option Handle) : (s.capture k loc h).txFits := by
  unfold State.capture
  split
  · exact State.txFits.enqueueLast (s := { s with fault := ⟨some k, loc, h, 0⟩ })
      ⟨hs.queued, hs.waiting, hs.subject⟩ (TxItem.fits_notice _ _ _)
  · exact ⟨hs.queued, hs.waiting, hs.subject⟩

/-- Accounting adds no frame to those that wait outside (R159). -/
theorem State.txFits.accountOwn {s : State} (hs : s.txFits) {a : Teardown → RestartSeq → RestartSeq} (f : Frame)
    (ha : ∀ t r, (a t r).waiting = r.waiting) : (s.accountOwn a f).txFits := by
  refine ⟨hs.queued, fun r hr => ?_, hs.subject⟩
  unfold State.accountOwn at hr
  dsimp only at hr
  split at hr
  · obtain ⟨r₀, h₀, rfl⟩ := Option.map_eq_some_iff.1 hr
    rw [ha]
    exact hs.waiting r₀ h₀
  · exact hs.waiting r hr

theorem RestartSeq.see_waiting (t : Teardown) (r : RestartSeq) : (RestartSeq.see t r).waiting = r.waiting := by
  unfold RestartSeq.see
  split <;> rfl

theorem State.txFits.settleLoss {s : State} (hs : s.txFits) (i : TxItem) : (s.settleLoss i).txFits := by
  cases i with
  | report => exact ⟨hs.queued, hs.waiting, nofun⟩
  | frame f =>
    have hcount := hs.countDrop.accountOwn (a := RestartSeq.lose) f fun _ _ => rfl
    unfold State.settleLoss
    dsimp only
    split
    · exact hcount.capture _ _ _
    · exact hcount

theorem State.txFits.enqueue {s : State} (hs : s.txFits) {f : Frame} (hf : f.fits) : (s.enqueue f).txFits := by
  unfold State.enqueue
  dsimp only
  split
  · exact hs.fillTeardown.append (List.Subset.refl _) hf
  · split
    · exact (hs.fillTeardown.append (i := .frame f) (fun _ => List.mem_of_mem_eraseIdx) hf).settleLoss _
    · exact hs.fillTeardown.settleLoss _

/-! ### The transmit side: the laws -/

theorem State.enqueueLast_keeps (s : State) {i : TxItem} (hi : i.fits) : KeepsNode s (s.enqueueLast i) :=
  .of_tx (s.enqueueLast_txKept i) fun hs => hs.enqueueLast hi

theorem State.capture_keeps (s : State) (k : FaultKind) (loc : Option ElemNo) (h : Option Handle) :
    KeepsNode s (s.capture k loc h) := .of_tx (s.capture_txKept k loc h) fun hs => hs.capture k loc h

theorem State.accountOwn_keeps (s : State) {a : Teardown → RestartSeq → RestartSeq} (f : Frame)
    (ha : ∀ t r, (a t r).waiting = r.waiting) : KeepsNode s (s.accountOwn a f) :=
  .of_tx (s.accountOwn_txKept a f) fun hs => hs.accountOwn f ha

theorem State.enqueue_keeps (s : State) {f : Frame} (hf : f.fits) : KeepsNode s (s.enqueue f) :=
  .of_tx (s.enqueue_txKept f) fun hs => hs.enqueue hf

theorem State.hopstat_keeps (s : State) (h : Handle) (m : HopMask) (st : Status) (r : Reason) (w : Bool) :
    KeepsNode s (s.hopstat h m st r w) := s.enqueue_keeps trivial

end Sys2Proof.Machine
end

section
/-!
PROOFS. What each command keeps of the laws of the anchor unit, of the frames held, of the bounds and of the drive
reasons, and of the lock of the fault record.
-/

namespace Sys2Proof.Machine

/-! ### The anchor slot (section 8) -/

theorem State.slotRelease_keeps {s : State} {g : Gate} (h : (s.slot g).state = .collecting ∨
    (s.slot g).state = .stepping ∨ (s.slot g).state = .quenching) (r : Reason) :
    KeepsNode s (s.slotRelease g r) :=
  (KeepsNode.setSlot (.release r h)).trans (State.enqueue_keeps _ trivial)

theorem State.endPath_keeps (s : State) (g : Gate) (r : Reason) : KeepsNode s (s.endPath g r) := by
  unfold State.endPath
  dsimp only
  split
  next => exact .refl s
  next => exact .refl s
  next h => exact State.slotRelease_keeps (.inl h) r
  next h => exact State.slotRelease_keeps (.inr (.inl h)) r
  next h => exact (KeepsNode.setSlot_setGate (.quenchHot _ r h)).trans (State.enqueue_keeps _ trivial)
  next h => exact .setSlot (.quenchHeld _ r h)
  next h =>
    split
    next hp => exact .setSlot (.endStep r h hp)
    next => exact .refl s

/-- The next throw of a scan is a member of its set, and one of the throws 0 to 11 (R136, R144). -/
theorem nextThrow_mem {S : ThrowSet} {c t : Throw} {wraps : Bool} (h : nextThrow S c = some (t, wraps)) :
    inSet S t = true ∧ t.val < 12 := by
  have hlt : ∀ t ∈ setThrows, t.val < 12 := by decide
  unfold nextThrow at h
  split at h
  next u hu =>
    cases h
    have hin := List.find?_some hu
    simp only [Bool.and_eq_true] at hin
    exact ⟨hin.1, hlt _ (List.mem_of_find?_eq_some hu)⟩
  next =>
    obtain ⟨u, hu, heq⟩ := Option.map_eq_some_iff.1 h
    cases heq
    exact ⟨List.find?_some hu, hlt _ (List.mem_of_find?_eq_some hu)⟩

theorem State.makeStep_keeps {s : State} {g : Gate} {sc sc' : Scan} {t : Throw} (hstate : (s.slot g).state = .hot)
    (hsc : (s.slot g).scan = some sc) (hthrows : sc'.throws = sc.throws) (hcurrent : sc'.current = sc.current)
    (hcounts : sc.countsSafe → sc'.countsSafe) (hin : inSet sc.throws t = true) (ht : t.val < 12) :
    KeepsNode s (s.makeStep g sc' t) := by
  unfold State.makeStep
  dsimp only
  split
  · exact .setSlot (.rescan sc sc' (by simp [hstate]) hsc hthrows hcurrent hcounts)
  · exact .setSlot_setGate (.step _ sc sc' t hstate hsc hthrows hcurrent hcounts hin ht)

theorem State.triggerHot_keeps {s : State} {g : Gate} {sc : Scan} (hstate : (s.slot g).state = .hot)
    (hsc : (s.slot g).scan = some sc) : KeepsNode s (s.triggerHot g sc) := by
  have hidle : (s.slot g).state ≠ .idle := by simp [hstate]
  unfold State.triggerHot
  dsimp only
  split
  · exact .setSlot (.rescan sc _ hidle hsc rfl rfl fun ⟨hr, hd, hk, hc, ho⟩ =>
      ⟨hr, Nat.le_trans (Nat.sub_le _ _) hd, hk, hc, ho⟩)
  · split
    next => exact .refl s
    next t wraps hnext =>
      obtain ⟨hin, ht⟩ := nextThrow_mem hnext
      split
      · refine KeepsNode.trans ?_ (State.enqueueLast_keeps _ (TxItem.fits_notice _ _ _))
        exact .setSlot (.rescan sc _ hidle hsc rfl rfl fun ⟨hr, hd, hk, _, ho⟩ =>
          ⟨hr, hd, hk, Nat.zero_le _, ho⟩)
      · refine State.makeStep_keeps hstate hsc rfl rfl (fun ⟨hr, _, hk, hc, ho⟩ => ⟨hr, hr, hk, ?_, ho⟩) hin ht
        dsimp only
        split
        · exact Nat.le_trans (Nat.sub_le _ _) hc
        · exact hc

theorem State.trigger_keeps (s : State) (g : Gate) : KeepsNode s (s.trigger g) := by
  unfold State.trigger
  split
  next => exact .refl s
  next sc hsc =>
    have hold : (s.slot g).state ≠ .idle → KeepsNode s (s.setSlot g { s.slot g with
        scan := some (if sc.pending then { sc with overrun := min (sc.overrun + 1) Config.countMax }
          else { sc with pending := true }) }) := fun hidle => by
      refine .setSlot (.rescan sc _ hidle hsc ?_ ?_ fun ⟨hr, hd, hk, hc, ho⟩ => ?_)
      · split <;> rfl
      · split <;> rfl
      · split
        · exact ⟨hr, hd, hk, hc, Nat.min_le_right _ _⟩
        · exact ⟨hr, hd, hk, hc, ho⟩
    split
    · exact .refl s
    · split
      next h => exact State.triggerHot_keeps h hsc
      next h => exact hold (by simp [h])
      next h => exact hold (by simp [h])
      next h => exact hold (by simp [h])
      all_goals exact .refl s

theorem State.takePending_keeps {s : State} {g : Gate} (hidle : (s.slot g).state ≠ .idle) :
    KeepsNode s (s.takePending g) := by
  unfold State.takePending
  split
  next sc hsc =>
    split
    · refine KeepsNode.trans ?_ (State.trigger_keeps _ g)
      exact .setSlot (.rescan sc _ hidle hsc rfl rfl fun ⟨hr, hd, hk, hc, ho⟩ => ⟨hr, hd, hk, hc, ho⟩)
    · exact .refl s
  next => exact .refl s

theorem State.openGate_keeps {s : State} {g : Gate} (hrunning : s.nodeState = .running)
    (h : ((s.slot g).state = .collecting ∨ (s.slot g).state = .stepping) ∧ (s.slot g).full = true ∨
      (s.slot g).state = .held) : KeepsNode s (s.openGate g) := by
  have hopen := (KeepsNode.setSlot_setGate (.opens hrunning h)).trans
    (State.enqueue_keeps _ (f := .hot ⟨s.address, g⟩) trivial)
  unfold State.openGate
  dsimp only
  split
  · refine hopen.trans (State.takePending_keeps ?_)
    rw [State.slot_congr (State.enqueue_slots _ _), State.slot_setGate, State.slot_setSlot_self]
    nofun
  · exact hopen

theorem State.testReady_keeps {s : State} {g : Gate} (hrunning : s.nodeState = .running)
    (h : (s.slot g).state = .collecting ∨ (s.slot g).state = .stepping) : KeepsNode s (s.testReady g) := by
  unfold State.testReady
  dsimp only
  split
  next hfull =>
    split
    · exact .setSlot (.holdReady h hfull)
    · exact State.openGate_keeps hrunning (.inl ⟨h, hfull⟩)
  next => exact .refl s

/-! ### Moves, channels and COILOK -/

theorem State.modElem_keeps (s : State) (e : ElemNo) (f : Element → Element) : KeepsNode s (s.modElem e f) :=
  .of_arb (s.modElem_arb e f)

/-- A run of steps over a list keeps what each step keeps. -/
theorem KeepsNode.foldl {α : Type} {f : State → α → State} (h : ∀ s a, KeepsNode s (f s a)) :
    ∀ (l : List α) (s : State), KeepsNode s (l.foldl f s)
  | [], s => .refl s
  | a :: l, s => (h s a).trans (KeepsNode.foldl h l (f s a))

theorem State.forElems_keeps {f : ElemNo → State → State} (h : ∀ e s, KeepsNode s (f e s)) (s : State)
    (es : List ElemNo) : KeepsNode s (s.forElems es f) :=
  KeepsNode.foldl (fun s e => h e s) es s

theorem State.expireMove_keeps (s : State) (v : Service) : KeepsNode s (s.expireMove v) := by
  refine ((s.elapse_keeps v.left).trans (.of_eq rfl)).trans (KeepsNode.of_arb (?_ : ArbTouched
    { s.elapse v.left with services := (s.elapse v.left).services.filter (fun r => r.elem != v.elem) } _))
  unfold State.expireMove State.moveEnded
  dsimp only
  split
  · exact .refl _
  · split
    · split
      · exact State.releaseFromStep2_touches _ _ _
      · exact State.setElem_arb _ _ _
    · exact State.setElem_arb _ _ _
    all_goals exact .refl _

theorem State.endPulsing_keeps (s : State) (ch : ChannelNo) (e : ElemNo) (t : Throw) (k : Lane) (n : Nat) :
    KeepsNode s (s.endPulsing ch e t k n) := by
  have h : KeepsNode s ((s.modElem e (Element.pulsesEnded s.config t n)).setChannel ch
      (.recovering Config.recoveryUnits)) := (s.modElem_keeps e _).trans (.of_eq rfl)
  unfold State.endPulsing
  dsimp only
  split
  · exact h.trans (.of_eq rfl)
  · exact h

theorem execMoveDExpires_keepsNode (e : ElemNo) (s : State) : Leads KeepsNode s (execMoveDExpires e s) := by
  unfold execMoveDExpires
  split
  · split
    · exact .next (.refl s)
    · exact .next (s.expireMove_keeps _)
  · exact .next (.refl s)

theorem execCascadeFrontPulseEnd_keepsNode (ch : ChannelNo) (s : State) :
    Leads KeepsNode s (execCascadeFrontPulseEnd ch s) := by
  unfold execCascadeFrontPulseEnd
  split
  · exact .next ((s.elapse_keeps _).trans (.of_eq rfl))
  · exact .next (.refl s)

theorem execCascadeGapEnd_keepsNode (ch : ChannelNo) (s : State) :
    Leads KeepsNode s (execCascadeGapEnd ch s) := by
  unfold execCascadeGapEnd
  split
  · exact .next ((s.elapse_keeps _).trans (.of_eq rfl))
  · exact .next (.refl s)

theorem execPulsingEnd_keepsNode (ch : ChannelNo) (s : State) : Leads KeepsNode s (execPulsingEnd ch s) := by
  unfold execPulsingEnd
  split
  · exact .next ((s.elapse_keeps _).trans (State.endPulsing_keeps _ _ _ _ _ _))
  · exact .next (.refl s)

theorem execChannelRecoveryEnd_keepsNode (ch : ChannelNo) (s : State) :
    Leads KeepsNode s (execChannelRecoveryEnd ch s) := by
  unfold execChannelRecoveryEnd
  split
  next left _ =>
    have hidle : KeepsNode s ((s.elapse left).setChannel ch .idle) := (s.elapse_keeps _).trans (.of_eq rfl)
    exact .next (hidle.trans (.of_arb (State.grants_touches _)))
  next => exact .next (.refl s)

theorem execCoilokRise_keepsNode (s : State) : Leads KeepsNode s (execCoilokRise s) := by
  have hrise : KeepsNode s { s with coilOk := true } := .of_eq rfl
  exact .next (hrise.trans (.of_arb (State.grants_touches _)))

theorem execCoilokFall_keepsNode (s : State) : Leads KeepsNode s (execCoilokFall s) := by
  have hfall : KeepsNode s { s with coilOk := false } := .of_eq rfl
  unfold execCoilokFall
  split
  · exact .next_ite (fun _ => hfall.trans (State.capture_keeps _ _ _ _)) fun _ => hfall
  · exact .next (.refl s)

/-! ### Timers, triggers and the quench line -/

theorem State.dropClaims_touches (s : State) (h : Handle) : ArbTouched s (s.dropClaims h) :=
  s.forElems_arb _ _ fun e s => s.modElem_arb e _

theorem State.expireClaims_keeps (s : State) (h : Handle) : KeepsNode s (s.expireClaims h) := by
  have hdrop : KeepsNode s (s.dropClaims h) := .of_arb (s.dropClaims_touches h)
  unfold State.expireClaims
  dsimp only
  split
  · exact hdrop.trans (State.hopstat_keeps _ _ _ _ _ _)
  · exact hdrop

theorem execTentativeClaimTimerExpiry_keepsNode (h : Handle) (s : State) :
    Leads KeepsNode s (execTentativeClaimTimerExpiry h s) := by
  unfold execTentativeClaimTimerExpiry
  split
  · exact .next ((s.elapse_keeps _).trans (State.expireClaims_keeps _ h))
  · exact .next (.refl s)

theorem execSetupStepTimerExpiry_keepsNode (g : Gate) (s : State) :
    Leads KeepsNode s (execSetupStepTimerExpiry g s) := by
  unfold execSetupStepTimerExpiry
  split
  next left _ _ h =>
    exact .next ((s.elapse_keeps left).trans (State.slotRelease_keeps (.inl (by rw [State.slot_elapse]; exact h)) _))
  next left _ _ h =>
    exact .next ((s.elapse_keeps left).trans
      (State.slotRelease_keeps (.inr (.inl (by rw [State.slot_elapse]; exact h))) _))
  next => exact .next (.refl s)

theorem execQuenchTimerExpiryRelease_keepsNode (g : Gate) (s : State) :
    Leads KeepsNode s (execQuenchTimerExpiryRelease g s) := by
  unfold execQuenchTimerExpiryRelease
  dsimp only
  split
  next left _ _ h _ =>
    exact .next ((s.elapse_keeps left).trans
      (State.slotRelease_keeps (.inr (.inr (by rw [State.slot_elapse]; exact h))) _))
  next => exact .next (.refl s)

/-- The COLD step that ends a step's quench time fits, as its throw is one of 0 to 11 (R77, R124). -/
theorem State.stepCold_keeps {s : State} {g : Gate} {t : Throw} (h : (s.slot g).state = .quenching)
    (hp : (s.slot g).purpose = some .step) (ht : (s.slot g).stepThrow = some t) : KeepsNode s (s.stepCold g t) := by
  refine (KeepsNode.setSlot (.enterStepping _ t h hp ht)).trans_tx (State.enqueue_txKept _ _) fun hs hfits =>
    hfits.enqueue fun heq => ?_
  have hlt := hs.step g t ht
  rw [heq] at hlt
  exact absurd hlt (by decide)

theorem execQuenchTimerExpiryStep_keepsNode (g : Gate) (s : State) :
    Leads KeepsNode s (execQuenchTimerExpiryStep g s) := by
  unfold execQuenchTimerExpiryStep
  dsimp only
  split
  next left t _ _ h hp ht =>
    exact .next ((s.elapse_keeps left).trans (State.stepCold_keeps (by rw [State.slot_elapse]; exact h)
      (by rw [State.slot_elapse]; exact hp) (by rw [State.slot_elapse]; exact ht)))
  next => exact .next (.refl s)

theorem execResumeTimerExpiry_keepsNode (g : Gate) (s : State) : Leads KeepsNode s (execResumeTimerExpiry g s) := by
  unfold execResumeTimerExpiry
  dsimp only
  split
  next left hrunning _ h _ =>
    exact .next ((s.elapse_keeps left).trans
      (State.openGate_keeps hrunning (.inr (by rw [State.slot_elapse]; exact h))))
  next => exact .next (.refl s)

theorem execTriggerEdge_keepsNode (g : Gate) (s : State) : Leads KeepsNode s (execTriggerEdge g s) := by
  unfold execTriggerEdge
  split
  · exact .next (s.trigger_keeps g)
  · exact .next (.refl s)

theorem State.slotAsserted_keeps (g : Gate) (s : State) : KeepsNode s (s.slotAsserted g) := by
  unfold State.slotAsserted
  dsimp only
  split
  next h => exact (KeepsNode.setSlot_setGate (.hold h)).trans (State.enqueue_keeps _ trivial)
  next h => exact .setSlot (.stopResume h)
  all_goals exact .refl s

theorem execQuenchAssertionSensed_keepsNode (s : State) : Leads KeepsNode s (execQuenchAssertionSensed s) := by
  have hsensed : KeepsNode s { s with quenchSensed := true } := .of_eq rfl
  unfold execQuenchAssertionSensed
  split
  · exact .next (.refl s)
  · exact .next_ite (fun _ => hsensed.trans (KeepsNode.foldl (fun s g => s.slotAsserted_keeps g) _ _)) fun _ => hsensed

theorem State.slot_map (s : State) (f : Slot → Slot) (g : Gate) :
    ({ s with slots := s.slots.map f } : State).slot g = f (s.slot g) := by
  simp [State.slot]

theorem execQuenchReleaseSensed_keepsNode (s : State) : Leads KeepsNode s (execQuenchReleaseSensed s) := by
  have hsensed : KeepsNode s { s with quenchSensed := false } := .of_eq rfl
  unfold execQuenchReleaseSensed
  split
  · refine .next_ite (fun _ => hsensed.trans_slots (gts := s.gateOut) fun g => ?_) fun _ => hsensed
    change SlotMove _ _ _ (({ s with slots := s.slots.map (Slot.startResume s.config.quenchTime) } : State).slot g, s.gate g) ∨
      ({ s with slots := s.slots.map (Slot.startResume s.config.quenchTime) } : State).slot g = s.slot g ∧ s.gate g = s.gate g
    rw [State.slot_map, Slot.startResume]
    split
    next h => exact .inl (.startResume _ h)
    next => exact .inr ⟨rfl, rfl⟩
  · exact .next (.refl s)

/-! ### The line (section 6) -/

theorem execResetHigh_keepsNode (straps : BitVec 6) (s : State) : Leads KeepsNode s (execResetHigh straps s) := by
  unfold execResetHigh
  split
  · exact .next (.of_eq rfl)
  · exact .next (.refl s)

theorem execLineIdleResync_keepsNode (s : State) : Leads KeepsNode s (execLineIdleResync s) := by
  unfold execLineIdleResync
  split
  · exact .next (.of_eq rfl)
  · exact .next (.refl s)

/-- The frames that the line interface holds change: entries of the transmit queue stay with the frames they had or
leave, and what it sends and reports fits. -/
theorem KeepsNode.of_line {s : State} {q : List TxEntry} {p : TxPhase} {r : Option Subject}
    (hlen : q.length ≤ s.txQueue.length) (hq : ∀ e ∈ q, ∃ e' ∈ s.txQueue, e'.item = e.item)
    (hsending : s.framesSafe → ∀ f, p = .sending f → f.fits)
    (hquery : s.framesSafe → ∀ u, p = .arbitrating (some u) → u.kind ≠ 3)
    (hr : s.framesSafe → ∀ u, r = some u → u.kind ≠ 3) :
    KeepsNode s { s with txQueue := q, txPhase := p, reportSlot := r } := by
  refine ⟨⟨rfl, id, id, id, id, fun hs => ⟨hs.received, fun e he f hf => ?_, hsending hs, hs.waiting, hr hs,
    hquery hs, hs.ext, hs.hops, hs.step⟩, fun hs => ⟨hlen.trans hs.tx, hs.rx, hs.ext, hs.senders, hs.bad, hs.drops,
    hs.later, hs.scans⟩, fun hs => ⟨hs.sequence, hs.restart, hs.startUp⟩, id⟩, id, .of_eq rfl⟩
  obtain ⟨e', he', hitem⟩ := hq e he
  exact hs.queued e' he' f (hitem.trans hf)

theorem markIdx_length (i : Nat) (q : List TxEntry) : (markIdx i q).length = q.length := by simp [markIdx]

theorem mem_markIdx {i : Nat} {q : List TxEntry} {e : TxEntry} (h : e ∈ markIdx i q) :
    ∃ e' ∈ q, e'.item = e.item := by
  obtain ⟨j, hj, rfl⟩ := List.getElem_of_mem h
  rw [markIdx_length] at hj
  refine ⟨q[j], List.getElem_mem hj, ?_⟩
  simp only [markIdx, List.getElem_modify]
  split <;> rfl

theorem execTxAttemptStart_keepsNode (s : State) : Leads KeepsNode s (execTxAttemptStart s) := by
  unfold execTxAttemptStart
  split
  · split
    · exact .next (.of_line (markIdx_length _ _).le (fun _ => mem_markIdx) (fun _ => nofun) (fun _ => nofun)
        fun hs => hs.subject)
    · exact .next (.refl s)
  · exact .next (.refl s)

theorem State.leaveQueue_keeps (s : State) : KeepsNode s s.leaveQueue := by
  refine .of_line (List.length_filter_le _ _) (fun e he => ⟨e, List.mem_of_mem_filter he, rfl⟩) (fun _ => nofun)
    (fun _ => nofun) fun hs u hu => ?_
  split at hu
  · cases hu
  · exact hs.subject u hu

theorem State.keepPlace_keeps (s : State) : KeepsNode s s.keepPlace := by
  unfold State.keepPlace
  split
  · exact s.leaveQueue_keeps
  · refine .of_line (List.length_map _).le (fun e he => ?_) (fun _ => nofun) (fun _ => nofun) fun hs => hs.subject
    obtain ⟨e', he', rfl⟩ := List.mem_map.1 he
    exact ⟨e', he', rfl⟩

theorem execArbitrationLost_keepsNode (s : State) : Leads KeepsNode s (execArbitrationLost s) := by
  unfold execArbitrationLost
  split
  · exact .next s.keepPlace_keeps
  all_goals exact .next (.refl s)

@[simp] theorem optHandleBits_length (h : Option Handle) : (optHandleBits h).length = 10 := by
  cases h <;> simp [optHandleBits]

@[simp] theorem locationBits_length (e : Option ElemNo) : (locationBits e).length = 6 := by
  cases e <;> simp [locationBits]

theorem State.nodeReport_length (s : State) : s.nodeReport.length = 65 := by
  simp [State.nodeReport]

theorem Element.reportBits_length (x : Element) : x.reportBits.length = 52 := by
  simp [Element.reportBits]

@[simp] theorem scanBits_length (sc : Option Scan) : (scanBits sc).length = 43 := by
  cases sc <;> simp [scanBits]

theorem Slot.reportBits_length (sl : Slot) : sl.reportBits.length = 58 := by
  simp [Slot.reportBits]

/-- A REPORT of a subject that can be answered fits its layout (R78, R172). -/
theorem State.report_fits (s : State) {u : Subject} (hu : u.kind ≠ 3) :
    (Frame.report u.coded (s.reportContent u)).fits := by
  obtain ⟨kind, index⟩ := u
  have hkind : kind = 0 ∨ kind = 1 ∨ kind = 2 := by
    revert hu; simp only; clear index; revert kind; decide
  rcases hkind with rfl | rfl | rfl
  · exact .inl ⟨rfl, s.nodeReport_length⟩
  · refine .inr (.inl ⟨rfl, ?_⟩)
    simp only [State.reportContent]
    cases s.elem index with
    | none => simp
    | some x => simpa using x.reportBits_length
  · exact .inr (.inr ⟨rfl, Slot.reportBits_length _⟩)

theorem State.sendReport_keeps {s : State} {query : Option Subject} (hphase : s.txPhase = .arbitrating query) :
    KeepsNode s (s.sendReport query) := by
  unfold State.sendReport
  split
  next u hu =>
    refine KeepsNode.trans (t := { s with
      txPhase := .sending (.report (s.subjectSent query u).coded (s.reportContent (s.subjectSent query u))) })
      (.of_line (Nat.le_refl _) (fun e he => ⟨e, he, rfl⟩) (fun hs f hf => ?_) (fun _ => nofun)
        fun hs => hs.subject) (.of_eq rfl)
    cases hf
    refine s.report_fits ?_
    unfold State.subjectSent
    split
    next => exact hs.subject u hu
    next v =>
      split
      · exact hs.query v hphase
      · exact hs.subject u hu
  next => exact .refl s

theorem State.winAttempt_keeps {s : State} {query : Option Subject} (hphase : s.txPhase = .arbitrating query) :
    KeepsNode s (s.winAttempt query) := by
  unfold State.winAttempt
  split
  next e he =>
    split
    next f hf =>
      refine .of_line (Nat.le_refl _) (fun e he => ⟨e, he, rfl⟩) (fun hs f' hf' => ?_) (fun _ => nofun)
        fun hs => hs.subject
      cases hf'
      exact hs.queued e (List.mem_of_find?_eq_some he) f hf
    next => exact State.sendReport_keeps hphase
  next => exact .refl s

theorem execArbitrationWon_keepsNode (s : State) : Leads KeepsNode s (execArbitrationWon s) := by
  unfold execArbitrationWon
  split
  next h => exact .next (State.winAttempt_keeps h)
  all_goals exact .next (.refl s)

/-! ### The start of a warm restart and the receive queue -/

/-- The teardown frames are BREAKs and RELEASEs, which fit with any fields (R77, R159). -/
theorem State.teardown_fits (s : State) : ∀ f ∈ s.restartBreaks ++ s.restartReleases, f.fits := by
  intro f hf
  rcases List.mem_append.1 hf with hf | hf <;> obtain ⟨_, _, rfl⟩ := List.mem_map.1 hf <;> trivial

/-- A warm restart closes every gate and stops every slot's timers (R158); it begins in a RUNNING node. -/
theorem State.beginRestart_keeps {s : State} (hrunning : s.nodeState = .running) : KeepsNode s s.beginRestart := by
  have hstop : KeepsNode s { s with slots := s.slots.map Slot.stopTimers, gateOut := Vector.replicate 8 false } := by
    refine (KeepsNode.refl s).trans_slots fun g => .inl ?_
    change SlotMove _ _ _ (({ s with slots := s.slots.map Slot.stopTimers } : State).slot g,
      (Vector.replicate 8 false)[g])
    rw [State.slot_map, Fin.getElem_fin, Vector.getElem_replicate]
    exact .stop
  refine hstop.trans (KeepsNode.trans (t := { s with
    nodeState := .restarting, restartDrive := true, gateOut := Vector.replicate 8 false
    slots := s.slots.map Slot.stopTimers
    restart := some
      { waiting := s.restartBreaks ++ s.restartReleases, outstanding := s.adopted, withdrawn := false
        sent := s.sentUnseen } }) ⟨⟨rfl, fun _ g hg => ?_, id, id, id, fun hs => ?_, fun hs => ?_, fun hs => ?_,
    fun _ => by rintro (h | h) <;> cases h⟩, id, .of_eq rfl⟩ (.of_tx (State.fillTeardown_txKept _) fun hs => hs.fillTeardown))
  · have : (Vector.replicate 8 false)[g] = true := hg
    simp at this
  · exact ⟨hs.received, hs.queued, hs.sending, fun r hr => by cases hr; exact s.teardown_fits, hs.subject, hs.query,
      hs.ext, hs.hops, hs.step⟩
  · exact ⟨hs.tx, hs.rx, hs.ext, hs.senders, hs.bad, hs.drops, hs.later, hs.scans⟩
  · have hstart : s.startUpDrive = false := by
      have := hs.startUp
      simp only [hrunning] at this
      simpa using this
    exact ⟨by simp, by simp, by simp [hstart]⟩

theorem State.countBad_keeps (s : State) : KeepsNode s s.countBad :=
  ⟨⟨rfl, id, id, id, id, fun hs => ⟨hs.received, hs.queued, hs.sending, hs.waiting, hs.subject, hs.query, hs.ext,
    hs.hops, hs.step⟩, fun hs => ⟨hs.tx, hs.rx, hs.ext, hs.senders, Nat.min_le_right _ _, hs.drops, hs.later, hs.scans⟩,
    fun hs => ⟨hs.sequence, hs.restart, hs.startUp⟩, id⟩, id, .of_eq rfl⟩

/-- A frame joins a receive queue with room (R81). What joins has to fit only where the frames that the node held
at first do. -/
theorem KeepsNode.join {s u : State} {rx : RxFrame} (hu : KeepsNode s u) (hroom : u.rxQueue.length < Config.rxCapacity)
    (hfits : s.framesSafe → rx.frame.fits) : KeepsNode s { u with rxQueue := u.rxQueue ++ [rx] } := by
  obtain ⟨⟨pending, gates, ready, slots, scans, frames, bounds, drives, ext⟩, later, locked⟩ := hu
  refine ⟨⟨pending, gates, ready, slots, scans, fun hs => ?_, fun hs => ?_, fun hs => ?_, ext⟩, later, locked⟩
  · have hu := frames hs
    refine ⟨fun rx' h => ?_, hu.queued, hu.sending, hu.waiting, hu.subject, hu.query, hu.ext, hu.hops, hu.step⟩
    rcases List.mem_append.1 h with h | h
    · exact hu.received rx' h
    · cases List.mem_singleton.1 h
      exact hfits hs
  · have hu := bounds hs
    exact ⟨hu.tx, by simpa using hroom, hu.ext, hu.senders, hu.bad, hu.drops, hu.later, hu.scans⟩
  · have hu := drives hs
    exact ⟨hu.sequence, hu.restart, hu.startUp⟩

/-- A frame is lost to a full receive queue (R82, R83). -/
theorem State.overrun_keeps (s : State) :
    KeepsNode s (if (s.capture .rxOverrun none none).nodeState = .running then
      (s.capture .rxOverrun none none).beginRestart else s.capture .rxOverrun none none) := by
  split
  next h => exact (s.capture_keeps _ _ _).trans (State.beginRestart_keeps h)
  next => exact s.capture_keeps _ _ _

theorem KeepsNode.receive {s u : State} {rx : RxFrame} (hu : KeepsNode s u) (hfits : s.framesSafe → rx.frame.fits) :
    KeepsNode s (u.receive rx) := by
  unfold State.receive
  split
  next hroom => exact hu.join hroom hfits
  next =>
    refine hu.trans (KeepsNode.trans ?_ (State.overrun_keeps _))
    split
    · exact u.accountOwn_keeps _ fun _ _ => rfl
    · exact .refl u

theorem State.overLong_keeps (s : State) : KeepsNode s s.overLong := s.countBad_keeps.trans (.of_eq rfl)

theorem State.frameCompletes_keeps (s : State) (f : RawFrame) (flagged : Bool) :
    KeepsNode s (s.frameCompletes f flagged) := by
  unfold State.frameCompletes
  split
  · exact s.overLong_keeps
  · split
    · exact s.countBad_keeps
    · split
      next x hx => exact (KeepsNode.refl s).receive fun _ => ofRaw_fits hx
      next => exact s.countBad_keeps

theorem State.ownCompletes_keeps {s : State} {f : Frame} (hphase : s.txPhase = .sending f) (flagged : Bool) :
    KeepsNode s (s.ownCompletes f flagged) := by
  unfold State.ownCompletes
  split
  · exact s.keepPlace_keeps.trans (State.countBad_keeps _)
  · exact s.leaveQueue_keeps.receive fun hs => hs.sending f hphase

theorem execFrameEnd_keepsNode (frame : Option RawFrame) (flagged : Bool) (s : State) :
    Leads KeepsNode s (execFrameEnd frame flagged s) := by
  unfold execFrameEnd
  split
  next h => exact .next (State.ownCompletes_keeps h flagged)
  next =>
    split
    · exact .next (s.frameCompletes_keeps _ flagged)
    · exact .next (.refl s)
  next => exact .next (.refl s)

theorem execOverLongFrame_keepsNode (s : State) : Leads KeepsNode s (execOverLongFrame s) := by
  unfold execOverLongFrame
  split
  · exact .next s.overLong_keeps
  · exact .next (.refl s)

/-! ### The frames of setup (section 7) -/

theorem State.popFrame_keeps (s : State) : KeepsNode s s.popFrame :=
  ⟨⟨rfl, id, id, id, id, fun hs => ⟨fun rx h => hs.received rx (List.mem_of_mem_tail h), hs.queued, hs.sending,
    hs.waiting, hs.subject, hs.query, hs.ext, hs.hops, hs.step⟩,
    fun hs => ⟨hs.tx, by simpa [State.popFrame] using Nat.le_succ_of_le hs.rx, hs.ext, hs.senders, hs.bad, hs.drops, hs.later, hs.scans⟩,
    fun hs => ⟨hs.sequence, hs.restart, hs.startUp⟩, id⟩, id, .of_eq rfl⟩

/-- The frame at the head of the receive queue is one of it, in a node state that takes frames. -/
theorem State.headFrame_some {s : State} {rx : RxFrame} (h : s.headFrame = some rx) :
    s.nodeState.takesFrames = true ∧ rx ∈ s.rxQueue := by
  unfold State.headFrame at h
  split at h
  next hn => exact ⟨hn, List.mem_of_mem_head? h⟩
  next => cases h

section
variable {table : List ExtEntry} {a : Address} {h : Handle} {count : Fin 16} {hops : List Hop}

/-- With the extended flag clear the table is not consulted (R94). -/
theorem resolveRoute_plain : resolveRoute table a h count false hops =
    ⟨ownHops hops, decide (1 ≤ count.val ∧ count.val ≤ 4), table⟩ := rfl

/-- The sender's entry, where it has the ROUTE's handle, gives the hops from number 4 on (R91, R94). -/
theorem resolveRoute_entry {x : ExtEntry} (hx : table.find? (fun x => x.sender == a) = some x) (hh : x.handle = h) :
    resolveRoute table a h count true hops =
      ⟨ownHops hops ++ extHops x.hops, decide (5 ≤ count.val ∧ count.val ≤ 8 ∧ count.val = 4 + x.hops.length),
        table.filter (fun y => y.sender != a)⟩ := by
  simp [resolveRoute, hx, hh]

/-- Without such an entry the ROUTE is malformed (R94). -/
theorem resolveRoute_noEntry (hx : ∀ x, table.find? (fun x => x.sender == a) = some x → x.handle ≠ h) :
    resolveRoute table a h count true hops = ⟨ownHops hops, false, table⟩ := by
  cases hfind : table.find? (fun x => x.sender == a) with
  | none => simp [resolveRoute, hfind]
  | some x => simp [resolveRoute, hfind, hx x hfind]

end

/-- Settles O34: R94's table is the three equations of the resolution. -/
theorem routeHopListResolved : Obligations.RouteHopListResolved :=
  fun _ _ _ _ _ _ => ⟨resolveRoute_plain, fun _ hx hh => resolveRoute_entry hx hh, resolveRoute_noEntry⟩

/-- What a resolution answers, by the row of R94's table that applies. -/
theorem resolveRoute_cases (table : List ExtEntry) (a : Address) (h : Handle) (count : Fin 16) (ext : Bool)
    (hops : List Hop) :
    resolveRoute table a h count ext hops = ⟨ownHops hops, decide (1 ≤ count.val ∧ count.val ≤ 4), table⟩ ∨
    (∃ x : ExtEntry, resolveRoute table a h count ext hops =
      ⟨ownHops hops ++ extHops x.hops, decide (5 ≤ count.val ∧ count.val ≤ 8 ∧ count.val = 4 + x.hops.length),
        table.filter (fun y => y.sender != a)⟩) ∨
    resolveRoute table a h count ext hops = ⟨ownHops hops, false, table⟩ := by
  cases ext with
  | false => exact .inl resolveRoute_plain
  | true =>
    by_cases hx : ∃ x, table.find? (fun x => x.sender == a) = some x ∧ x.handle = h
    · obtain ⟨x, hx, hh⟩ := hx
      exact .inr (.inl ⟨x, resolveRoute_entry hx hh⟩)
    · exact .inr (.inr (resolveRoute_noEntry fun x hx' hh => hx ⟨x, hx', hh⟩))

theorem resolveRoute_table_sublist (table : List ExtEntry) (a : Address) (h : Handle) (count : Fin 16) (ext : Bool)
    (hops : List Hop) : (resolveRoute table a h count ext hops).table.Sublist table := by
  obtain heq | ⟨x, heq⟩ | heq := resolveRoute_cases table a h count ext hops
  · rw [heq]
  · rw [heq]; exact List.filter_sublist
  · rw [heq]

@[simp] theorem ownHops_length (hops : List Hop) : (ownHops hops).length = min 4 hops.length := by
  simp [ownHops]

@[simp] theorem extHops_length (hops : List Hop) : (extHops hops).length = min 4 hops.length := by
  simp [extHops]

/-- The hop list of a well-formed ROUTE that fits has 1 to 8 hops (R94). -/
theorem resolveRoute_hops_length {table : List ExtEntry} {a : Address} {h : Handle} {lane : Lane} {count : Fin 16}
    {ext : Bool} {hops : List Hop} (hwf : (resolveRoute table a h count ext hops).wellFormed = true)
    (hfits : (Frame.route h lane count ext hops).fits) :
    1 ≤ ((resolveRoute table a h count ext hops).hops.map (·.2)).length ∧
      ((resolveRoute table a h count ext hops).hops.map (·.2)).length ≤ 8 := by
  have hlen : hops.length = min count.val 4 := hfits
  obtain heq | ⟨x, heq⟩ | heq := resolveRoute_cases table a h count ext hops <;> rw [heq] at hwf ⊢
  · simp only [decide_eq_true_eq] at hwf
    simp only [List.length_map, ownHops_length]
    omega
  · simp only [decide_eq_true_eq] at hwf
    simp only [List.length_map, List.length_append, ownHops_length, extHops_length]
    omega
  · cases hwf

/-- Entries leave the extension table, or one with 1 to 4 hops joins it in a node that takes frames; none of a sender
that has one already. -/
theorem KeepsNode.of_extTable {s : State} {table : List ExtEntry} (hlen : s.extTable.length ≤ Config.extCapacity →
      table.length ≤ Config.extCapacity) (hsenders : (s.extTable.map (·.sender)).Nodup →
      (table.map (·.sender)).Nodup) (hhops : s.framesSafe → ∀ x ∈ table, 1 ≤ x.hops.length ∧ x.hops.length ≤ 4)
    (hempty : s.nodeState.takesFrames = true) : KeepsNode s { s with extTable := table } :=
  ⟨⟨rfl, id, id, id, id, fun hs => ⟨hs.received, hs.queued, hs.sending, hs.waiting, hs.subject, hs.query, hhops hs,
    hs.hops, hs.step⟩, fun hs => ⟨hs.tx, hs.rx, hlen hs.ext, hsenders hs.senders, hs.bad, hs.drops, hs.later, hs.scans⟩,
    fun hs => ⟨hs.sequence, hs.restart, hs.startUp⟩,
    fun _ h => by rcases h with h | h <;> rw [show s.nodeState = _ from h] at hempty <;> cases hempty⟩, id, .of_eq rfl⟩

theorem State.anchorReason_eq_none {s : State} {g : Gate} {wf : Bool} (h : s.anchorReason g wf = none) :
    s.config.gateEnable.getLsbD g = true ∧ (s.slot g).state = .idle ∧ wf = true := by
  unfold State.anchorReason at h
  split_ifs at h with henable hstate hwf
  exact ⟨by simpa using henable, by simpa using hstate, by simpa using hwf⟩

theorem KeepsNode.anchorRole {s u : State} (hu : KeepsNode s u) {h : Handle} {r : Resolved}
    (hhops : s.framesSafe → r.wellFormed = true → 1 ≤ (r.hops.map (·.2)).length ∧ (r.hops.map (·.2)).length ≤ 8) :
    KeepsNode s (u.anchorRole h r) := by
  unfold State.anchorRole
  split
  · split
    next => exact hu.trans (u.enqueue_keeps trivial)
    next hnone =>
      obtain ⟨-, hidle, hwf⟩ := State.anchorReason_eq_none hnone
      exact (hu.trans_setSlot (.collect _ _ hidle fun hs => hhops hs hwf)).trans (State.enqueue_keeps _ trivial)
  · exact hu.trans (u.enqueue_keeps trivial)
  · exact hu.trans (u.enqueue_keeps trivial)
  all_goals exact hu

theorem State.claimHops_touches (s : State) (h : Handle) (lane : Lane) (n : Nat) (mine : HopList) :
    ArbTouched s (s.claimHops h lane n mine) :=
  foldl_touches _ (fun s _ => s.modElem_arb _ _) mine s

theorem State.hopRole_keeps (s : State) (h : Handle) (lane : Lane) (r : Resolved) (mine : HopList) :
    KeepsNode s (s.hopRole h lane r mine) := by
  unfold State.hopRole
  split
  · split
    · exact s.hopstat_keeps _ _ _ _ _
    · exact .of_arb (s.claimHops_touches _ _ _ _)
  · exact s.hopstat_keeps _ _ _ _ _
  · exact s.hopstat_keeps _ _ _ _ _
  all_goals exact .refl s

end Sys2Proof.Machine
end

section
/-!
PROOFS. What the frames seen and the other commands keep of the laws of the anchor unit, of the frames held, of the
bounds and of the drive reasons, and of the lock of the fault record.
-/

namespace Sys2Proof.Machine

/-- The hop role, at a node that has a part in it. -/
theorem KeepsNode.hopRole_ite {s u : State} (hu : KeepsNode s u) {b : Bool} {h : Handle} {lane : Lane} {r : Resolved}
    {mine : HopList} : KeepsNode s (if b then u else u.hopRole h lane r mine) := by
  split
  · exact hu
  · exact hu.trans (u.hopRole_keeps _ _ _ _)

theorem KeepsNode.seeRoute {s u : State} (hu : KeepsNode s u) {sender : Address} {h : Handle} {lane : Lane}
    {count : Fin 16} {ext : Bool} {hops : List Hop} (htakes : u.nodeState.takesFrames = true)
    (hfits : s.framesSafe → (Frame.route h lane count ext hops).fits) :
    KeepsNode s (u.seeRoute sender h lane count ext hops) := by
  have hsub := resolveRoute_table_sublist u.extTable sender h count ext hops
  have htable : KeepsNode u { u with extTable := (resolveRoute u.extTable sender h count ext hops).table } :=
    .of_extTable (hsub.length_le.trans ·) (fun hs => hs.sublist (hsub.map _))
      (fun hs x hx => hs.ext x (hsub.subset hx)) htakes
  have hanchor : KeepsNode s (if h.anchor = u.address then
      State.anchorRole { u with extTable := (resolveRoute u.extTable sender h count ext hops).table } h
        (resolveRoute u.extTable sender h count ext hops)
      else { u with extTable := (resolveRoute u.extTable sender h count ext hops).table }) := by
    split
    · exact (hu.trans htable).anchorRole fun hs hwf => resolveRoute_hops_length hwf (hfits hs)
    · exact hu.trans htable
  unfold State.seeRoute
  dsimp only
  exact hanchor.hopRole_ite

theorem execFrameSeenRoute_keepsNode (s : State) : Leads KeepsNode s (execFrameSeenRoute s) := by
  unfold execFrameSeenRoute
  split
  next hhead =>
    obtain ⟨htakes, hmem⟩ := State.headFrame_some hhead
    exact .next (s.popFrame_keeps.seeRoute htakes fun hs => hs.received _ hmem)
  next => exact .next (.refl s)

/-- A filed extension names 1 to 4 hops, as its frame fits (R77, R90). -/
theorem execFrameSeenRouteExt_keepsNode (s : State) : Leads KeepsNode s (execFrameSeenRouteExt s) := by
  unfold execFrameSeenRouteExt
  split
  next a h hops hhead =>
    obtain ⟨htakes, hmem⟩ := State.headFrame_some hhead
    obtain ⟨⟨pending, gates, ready, slots, scans, frames, bounds, drives, ext⟩, later, locked⟩ := s.popFrame_keeps
    refine .next ⟨⟨pending, gates, ready, slots, scans, fun hs => ?_, fun hs => ?_, fun hs => ?_, fun _ hstate => ?_⟩,
      later, locked⟩
    · have hu := frames hs
      refine ⟨hu.received, hu.queued, hu.sending, hu.waiting, hu.subject, hu.query, fun x hx => ?_, hu.hops, hu.step⟩
      obtain ⟨kept, hkept, heq⟩ := fileExtension_eq_append s.extTable ⟨a, h, hops⟩
      rcases List.mem_append.1 (heq ▸ hx) with hx | hx
      · exact hs.ext x (List.mem_of_mem_filter (hkept.subset hx))
      · cases List.mem_singleton.1 hx
        exact hs.received _ hmem
    · have hu := bounds hs
      exact ⟨hu.tx, hu.rx, fileExtension_length_le hs.ext, fileExtension_senders_nodup hs.senders, hu.bad, hu.drops,
        hu.later, hu.scans⟩
    · have hu := drives hs
      exact ⟨hu.sequence, hu.restart, hu.startUp⟩
    · rcases hstate with hstate | hstate <;> rw [show s.nodeState = _ from hstate] at htakes <;> cases htakes
  next => exact .next (.refl s)

theorem State.confirm_touches (h : Handle) (e : ElemNo) (s : State) : ArbTouched s (s.confirm h e) := by
  unfold State.confirm
  split
  · exact .refl s
  · split
    · dsimp only
      split
      · exact s.setElem_arb _ _
      · split
        · exact (s.setElem_arb _ _).trans (State.queueMove_touches _ _ _ _)
        · exact s.setElem_arb _ _
    · exact .refl s

theorem State.seeAccept_keeps (s : State) (h : Handle) : KeepsNode s (s.seeAccept h) := by
  have hconfirm : KeepsNode s (s.forElems allElems (State.confirm h)) :=
    .of_arb (s.forElems_arb _ _ fun e s => s.confirm_touches h e)
  unfold State.seeAccept
  dsimp only
  split
  · exact hconfirm.trans (State.hopstat_keeps _ _ _ _ _ _)
  · exact hconfirm

theorem execFrameSeenAccept_keepsNode (s : State) : Leads KeepsNode s (execFrameSeenAccept s) := by
  unfold execFrameSeenAccept
  split
  · exact .next_ite (fun _ => s.popFrame_keeps.trans (State.seeAccept_keeps _ _)) fun _ => s.popFrame_keeps
  · exact .next (.refl s)

theorem execFrameSeenRefuse_keepsNode (s : State) : Leads KeepsNode s (execFrameSeenRefuse s) := by
  unfold execFrameSeenRefuse
  split
  · exact .next_ite (fun _ => s.popFrame_keeps.trans (.of_arb (State.dropClaims_touches _ _)))
      fun _ => s.popFrame_keeps
  · exact .next (.refl s)

/-! ### The frames of a path and of its end (sections 7.6 and 8) -/

theorem State.anchors_running {s : State} {h : Handle} (hs : s.anchors h = true) :
    s.nodeState = .running ∧ h.anchor = s.address := by simpa [State.anchors] using hs

theorem State.seeReady_keeps {s : State} (hrunning : s.nodeState = .running) (g : Gate) (mask : HopMask) :
    KeepsNode s (s.seeReady g mask) := by
  have hready : (s.slot g).state = .collecting ∨ (s.slot g).state = .stepping →
      KeepsNode s ((s.setSlot g ((s.slot g).takeReady mask)).testReady g) := fun h =>
    (KeepsNode.setSlot (.takeReady mask h)).trans
      (State.testReady_keeps hrunning (by rw [State.slot_setSlot_self]; exact h))
  unfold State.seeReady
  split
  next h => exact hready (.inl h)
  next h => exact hready (.inr h)
  all_goals exact .refl s

theorem State.seeScanRefused_keeps (s : State) (g : Gate) : KeepsNode s (s.seeScanRefused g) := by
  have hdrop : (s.slot g).state ≠ .idle → KeepsNode s (if (s.slot g).scan.isSome then
      (s.setSlot g { s.slot g with scan := none }).enqueueLast
        (.frame (.notice .scanRefused (some ⟨s.address, g⟩) Reason.hopRefused.code)) else s) := fun h => by
    split
    · exact (KeepsNode.setSlot (.dropScan h)).trans (State.enqueueLast_keeps _ (TxItem.fits_notice _ _ _))
    · exact .refl s
  unfold State.seeScanRefused
  split
  next => exact .refl s
  next => exact .refl s
  all_goals next h => exact hdrop (by simp [h])

theorem State.seeHopstat_keeps {s : State} (hrunning : s.nodeState = .running) (g : Gate) (mask : HopMask)
    (st : Status) : KeepsNode s (s.seeHopstat g mask st) := by
  cases st with
  | ready => exact State.seeReady_keeps hrunning g mask
  | refused => exact s.endPath_keeps g _
  | fault => exact s.endPath_keeps g _
  | scanRefused => exact s.seeScanRefused_keeps g

theorem execFrameSeenHopstat_keepsNode (s : State) : Leads KeepsNode s (execFrameSeenHopstat s) := by
  unfold execFrameSeenHopstat
  split
  · refine .next_ite (fun h => s.popFrame_keeps.trans ?_) fun _ => s.popFrame_keeps
    exact State.seeHopstat_keeps (s := s.popFrame) (State.anchors_running h).1 _ _ _
  · exact .next (.refl s)

theorem execFrameSeenHot_keepsNode (s : State) : Leads KeepsNode s (execFrameSeenHot s) := by
  unfold execFrameSeenHot
  split
  · exact .next_ite (fun _ => s.popFrame_keeps.trans (State.forElems_keeps (fun e s => s.modElem_keeps e _) _ _))
      fun _ => s.popFrame_keeps
  · exact .next (.refl s)

/-- A COLD step's own element answers with one HOPSTAT or has its move queued (R108). -/
theorem State.stepElem_keeps (s : State) (h : Handle) (k : HopNo) (t : Throw) (e : ElemNo) (x : Element) :
    KeepsNode s (s.stepElem h k t e x) := by
  unfold State.stepElem
  split
  case h_1 | h_2 =>
    split
    · exact s.hopstat_keeps _ _ _ _ _
    · split
      · exact s.hopstat_keeps _ _ _ _ _
      · exact .of_arb ((s.setElem_arb _ _).trans (State.queueMove_touches _ _ _ _))
  case h_8 | h_9 => exact .refl s
  all_goals exact s.hopstat_keeps _ _ _ _ _

theorem State.coolElems_touches (s : State) (h : Handle) : ArbTouched s (s.coolElems h) :=
  s.forElems_arb _ _ fun e s => s.modElem_arb e _

theorem State.seeCold_keeps (s : State) (h : Handle) (p : ColdPurpose) : KeepsNode s (s.seeCold h p) := by
  have hcool : KeepsNode s (s.coolElems h) := .of_arb (s.coolElems_touches h)
  unfold State.seeCold
  dsimp only
  split
  · exact hcool
  · split
    · exact hcool
    · split
      · exact hcool.trans (State.stepElem_keeps _ _ _ _ _ _)
      · exact hcool

theorem execFrameSeenCold_keepsNode (s : State) : Leads KeepsNode s (execFrameSeenCold s) := by
  unfold execFrameSeenCold
  split
  · exact .next_ite (fun _ => s.popFrame_keeps.trans (State.seeCold_keeps _ _ _)) fun _ => s.popFrame_keeps
  · exact .next (.refl s)

theorem State.releaseHandle_touches (s : State) (h : Handle) : ArbTouched s (s.releaseHandle h) := by
  refine ArbTouched.trans (t := s.withdrawWaiting h) ⟨_, _, _, _, _, rfl⟩ (State.forElems_arb _ _ _ fun e s => ?_)
  split
  · split
    · exact s.releaseSeen_touches e
    · exact .refl s
  · exact .refl s

theorem State.ownRelease_keeps (s : State) (a : Address) (h : Handle) : KeepsNode s (s.ownRelease a h) := by
  unfold State.ownRelease
  split
  next hrel => exact .setSlot (.released hrel.2)
  next => exact .refl s

theorem execFrameSeenRelease_keepsNode (s : State) : Leads KeepsNode s (execFrameSeenRelease s) := by
  unfold execFrameSeenRelease
  split
  · refine .next_ite (fun _ => (s.popFrame_keeps.trans (.of_arb (State.releaseHandle_touches _ _))).trans
      (State.ownRelease_keeps _ _ _)) fun _ => ?_
    split
    · exact s.popFrame_keeps.trans (State.accountOwn_keeps _ _ RestartSeq.see_waiting)
    · exact s.popFrame_keeps
  · exact .next (.refl s)

theorem execFrameSeenBreak_keepsNode (s : State) : Leads KeepsNode s (execFrameSeenBreak s) := by
  unfold execFrameSeenBreak
  split
  next sender h mask reason _ =>
    have hseen : KeepsNode s (if sender = s.address then
        s.popFrame.accountOwn RestartSeq.see (.brk h mask reason) else s.popFrame) := by
      split
      · exact s.popFrame_keeps.trans (State.accountOwn_keeps _ _ RestartSeq.see_waiting)
      · exact s.popFrame_keeps
    exact .next_ite (fun _ => hseen.trans (State.endPath_keeps _ _ _)) fun _ => hseen
  next => exact .next (.refl s)

theorem execFrameSeenDrop_keepsNode (s : State) : Leads KeepsNode s (execFrameSeenDrop s) := by
  unfold execFrameSeenDrop
  split
  · exact .next_ite (fun _ => s.popFrame_keeps.trans (State.endPath_keeps _ _ _)) fun _ => s.popFrame_keeps
  · exact .next (.refl s)

/-! ### Scans (section 9) -/

theorem State.scanAnchor_keeps (s : State) (g : Gate) (S : ThrowSet) {d k : Nat} (hd : d ≤ Config.countMax)
    (hk : k ≤ Config.countMax) : KeepsNode s (s.scanAnchor g S d k) := by
  have hscan : (s.slot g).state ≠ .idle → KeepsNode s (if (s.slot g).scanOk S then
      s.setSlot g { s.slot g with scan := some ((s.slot g).newScan S d k) }
      else s.enqueueLast (.frame (.notice .scanRefused (some ⟨s.address, g⟩) Reason.badSet.code))) := fun h => by
    split
    next hok => exact .setSlot (.newScan S d k h hd hk hok)
    next => exact s.enqueueLast_keeps (TxItem.fits_notice _ _ _)
  unfold State.scanAnchor
  dsimp only
  split
  next => exact .refl s
  next => exact .refl s
  all_goals next h => exact hscan (by simp [h])

theorem State.scanLastHop_keeps (s : State) (h : Handle) (S : ThrowSet) : KeepsNode s (s.scanLastHop h S) := by
  unfold State.scanLastHop
  split
  · split
    · exact s.hopstat_keeps _ _ _ _ _
    · exact .refl s
  · exact .refl s

theorem byte_toNat_le_countMax (b : BitVec 8) : b.toNat ≤ Config.countMax := Nat.le_of_lt_succ b.isLt

theorem execFrameSeenScan_keepsNode (s : State) : Leads KeepsNode s (execFrameSeenScan s) := by
  unfold execFrameSeenScan
  split
  next h S d k _ =>
    split
    · refine .next (KeepsNode.trans ?_ (State.scanLastHop_keeps _ _ _))
      split
      · exact s.popFrame_keeps.trans
          (State.scanAnchor_keeps _ _ _ (byte_toNat_le_countMax d) (byte_toNat_le_countMax k))
      · exact s.popFrame_keeps
    · exact .next s.popFrame_keeps
  next => exact .next (.refl s)

theorem execFrameSeenAdvance_keepsNode (s : State) : Leads KeepsNode s (execFrameSeenAdvance s) := by
  unfold execFrameSeenAdvance
  split
  · exact .next_ite (fun _ => s.popFrame_keeps.trans (State.trigger_keeps _ _)) fun _ => s.popFrame_keeps
  · exact .next (.refl s)

/-! ### The frames addressed to a node -/

theorem State.holdLanes_keeps (s : State) (mask : LaneMask) : KeepsNode s (s.holdLanes mask) := by
  have hmask : KeepsNode s { s with laneHold := mask } := .of_eq rfl
  exact hmask.trans (.of_arb ((State.startUnheld_touches _).trans (State.grants_touches _)))

theorem execFrameSeenLanehold_keepsNode (s : State) : Leads KeepsNode s (execFrameSeenLanehold s) := by
  unfold execFrameSeenLanehold
  split
  · exact .next_ite (fun _ => s.popFrame_keeps.trans (State.holdLanes_keeps _ _)) fun _ => s.popFrame_keeps
  · exact .next (.refl s)

/-- A subject that can be answered is none of the kind that is not assigned (R172). -/
theorem State.answers_kind {s : State} {u : Subject} (h : s.answers u = true) : u.kind ≠ 3 := by
  intro hk
  simp [State.answers, hk] at h

/-- The report slot takes a subject that can be answered. -/
theorem State.setReport_keeps (s : State) {u : Subject} (hu : u.kind ≠ 3) :
    KeepsNode s { s with reportSlot := some u } :=
  .of_line (Nat.le_refl _) (fun e he => ⟨e, he, rfl⟩) (fun hs => hs.sending) (fun hs => hs.query)
    fun _ v hv => by cases hv; exact hu

theorem State.seeQuery_keeps (s : State) {u : Subject} (hu : u.kind ≠ 3) : KeepsNode s (s.seeQuery u) := by
  unfold State.seeQuery
  split
  · have hfill : KeepsNode s (s.fillTeardown.enqueueLast .report) :=
      (KeepsNode.of_tx s.fillTeardown_txKept fun hs => hs.fillTeardown).trans (State.enqueueLast_keeps _ trivial)
    unfold State.queueReport
    dsimp only
    split
    · exact hfill.trans (State.setReport_keeps _ hu)
    · exact hfill
  · split
    · split
      · exact .of_line (Nat.le_refl _) (fun e he => ⟨e, he, rfl⟩) (fun _ => nofun)
          (fun _ v hv => by cases hv; exact hu) fun hs => hs.subject
      all_goals exact .refl s
    · exact s.setReport_keeps hu

theorem execFrameSeenQuery_keepsNode (s : State) : Leads KeepsNode s (execFrameSeenQuery s) := by
  unfold execFrameSeenQuery
  split
  · refine .next_ite (fun h => s.popFrame_keeps.trans (State.seeQuery_keeps _ ?_)) fun _ => s.popFrame_keeps
    simp only [Bool.and_eq_true] at h
    exact State.answers_kind h.2
  · exact .next (.refl s)

theorem execFrameSeenReport_keepsNode (s : State) : Leads KeepsNode s (execFrameSeenReport s) := by
  unfold execFrameSeenReport
  split
  · exact .next s.popFrame_keeps
  · exact .next (.refl s)

theorem execFrameSeenNotice_keepsNode (s : State) : Leads KeepsNode s (execFrameSeenNotice s) := by
  unfold execFrameSeenNotice
  split
  · exact .next s.popFrame_keeps
  · exact .next (.refl s)

theorem execFrameSeenRestart_keepsNode (s : State) : Leads KeepsNode s (execFrameSeenRestart s) := by
  unfold execFrameSeenRestart
  split
  · refine .next_ite (fun h => s.popFrame_keeps.trans ?_) fun _ => s.popFrame_keeps
    exact State.beginRestart_keeps (s := s.popFrame) (State.obeys_iff.1 h).1
  · exact .next (.refl s)

/-- Emptying the fault record keeps the laws, but not the lock (R155, R156). -/
theorem State.emptyFault_keepsLaws (s : State) : KeepsLaws s { s with fault := .empty } :=
  ⟨rfl, id, id, id, id, fun hs => ⟨hs.received, hs.queued, hs.sending, hs.waiting, hs.subject, hs.query,
    hs.ext, hs.hops, hs.step⟩, fun hs => ⟨hs.tx, hs.rx, hs.ext, hs.senders, hs.bad, hs.drops, Nat.zero_le _, hs.scans⟩,
    fun hs => ⟨hs.sequence, hs.restart, hs.startUp⟩, id⟩

theorem State.clearFaults_keepsLaws (s : State) : KeepsLaws s s.clearFaults :=
  (State.forElems_keeps (fun e s => s.modElem_keeps e Element.clearFault) s allElems).toKeepsLaws.trans
    (State.emptyFault_keepsLaws _)

theorem execFrameSeenClearfault_keepsLaws (s : State) : Leads KeepsLaws s (execFrameSeenClearfault s) := by
  unfold execFrameSeenClearfault
  split
  · exact .next_ite (fun _ => s.popFrame_keeps.toKeepsLaws.trans (State.clearFaults_keepsLaws _))
      fun _ => s.popFrame_keeps.toKeepsLaws
  · exact .next (.refl s)

/-! ### The group read (section 5) -/

theorem State.queueMove_keeps (s : State) (e : ElemNo) (t : Throw) (k : Lane) : KeepsNode s (s.queueMove e t k) :=
  .of_arb (s.queueMove_touches e t k)

theorem State.reportSet_keeps (s : State) (o : Owner) (step w : Bool) : KeepsNode s (s.reportSet o step w) := by
  unfold State.reportSet
  split
  · split
    · exact s.hopstat_keeps _ _ _ _ _
    · split
      · exact s.hopstat_keeps _ _ _ _ _
      · exact .refl s
  · exact .refl s

theorem State.setElem_keeps (s : State) (e : ElemNo) (x : Element) : KeepsNode s (s.setElem e x) :=
  .of_arb (s.setElem_arb e x)

theorem State.judgeVerify_keeps (s : State) (e : ElemNo) (x : Element) : KeepsNode s (s.judgeVerify e x) := by
  unfold State.judgeVerify
  split
  · dsimp only
    split
    · exact (s.setElem_keeps _ _).trans (State.reportSet_keeps _ _ _ _)
    · exact s.setElem_keeps _ _
  · split
    · have hstuck : ∀ h, KeepsNode s ((s.setElem e x.toStuck).capture .stuck (some e) h) := fun h =>
        (s.setElem_keeps e x.toStuck).trans (State.capture_keeps _ _ _ _)
      dsimp only
      split
      · split
        · exact (hstuck _).trans (State.hopstat_keeps _ _ _ _ _ _)
        · exact hstuck _
      · exact hstuck _
    · dsimp only
      split
      · exact (s.setElem_keeps _ _).trans (State.queueMove_keeps _ _ _ _)
      · exact s.setElem_keeps _ _

theorem State.judgeReturn_keeps (s : State) (e : ElemNo) (x : Element) : KeepsNode s (s.judgeReturn e x) := by
  unfold State.judgeReturn
  split
  · exact s.setElem_keeps _ _
  · split
    · exact (s.setElem_keeps _ _).trans (State.capture_keeps _ _ _ _)
    · dsimp only
      split
      · exact (s.setElem_keeps _ _).trans (State.queueMove_keeps _ _ _ _)
      · exact s.setElem_keeps _ _

theorem State.queueBreak_keeps (s : State) (h : Handle) (m : HopMask) : KeepsNode s (s.queueBreak h m) := by
  unfold State.queueBreak
  split
  · exact .refl s
  · exact KeepsNode.trans (t := { s with breaksOut := s.breaksOut ++ [h] }) (.of_eq rfl) (State.enqueue_keeps _ trivial)

theorem State.dropOut_keeps (s : State) (e : ElemNo) (x : Element) : KeepsNode s (s.dropOut e x) := by
  have hfault : ∀ h, KeepsNode s ((s.setElem e x.toFault).capture .dropOut (some e) h) := fun h =>
    (s.setElem_keeps e x.toFault).trans (State.capture_keeps _ _ _ _)
  unfold State.dropOut
  dsimp only
  split
  · split
    · exact (hfault _).trans (State.queueBreak_keeps _ _ _)
    · exact hfault _
  · exact hfault _

theorem State.judge_keeps (e : ElemNo) (s : State) : KeepsNode s (s.judge e) := by
  have hexposed : ∀ x, KeepsNode s (s.judgeExposed e x) := fun x => by
    unfold State.judgeExposed
    split
    · exact s.setElem_keeps _ _
    · split
      · exact s.setElem_keeps _ _
      · exact s.dropOut_keeps e x
  unfold State.judge
  split
  · exact .refl s
  · split
    · exact s.judgeVerify_keeps e _
    · split
      · exact s.judgeReturn_keeps e _
      · exact .refl s
    · exact hexposed _
    · exact hexposed _
    all_goals exact .refl s

/-- The node goes from SEEDING to RUNNING, and its start-up drive reason ends (R169). -/
theorem State.enterRunning_keeps {s : State} (hseeding : s.nodeState = .seeding) :
    KeepsNode s { s with startUpDrive := false, nodeState := .running } := by
  refine ⟨⟨rfl, fun hs g hg => ?_, id, id, id, fun hs => ⟨hs.received, hs.queued, hs.sending, hs.waiting, hs.subject,
    hs.query, hs.ext, hs.hops, hs.step⟩, fun hs => ⟨hs.tx, hs.rx, hs.ext, hs.senders, hs.bad, hs.drops, hs.later,
    hs.scans⟩, fun hs => ?_, fun _ h => ?_⟩, id, .of_eq rfl⟩
  · exact absurd (hseeding.symm.trans (hs g hg).1) nofun
  · obtain ⟨hseq, hre, -⟩ := hs
    rw [hseeding] at hseq hre
    exact ⟨by simpa using hseq, by simpa using hre, by simp⟩
  · rcases h with h | h <;> cases h

theorem State.listen_keeps (s : State) : KeepsNode s { s with lineState := .seeking } := .of_eq rfl

theorem State.endSeeding_keeps {s : State} (hseeding : s.nodeState = .seeding) : KeepsNode s s.endSeeding := by
  have hseed : ArbTouched s (s.forElems allElems fun e s => s.modElem e Element.seed) :=
    s.forElems_arb _ _ fun e s => s.modElem_arb e _
  have hstate := hseed.nodeState.trans hseeding
  exact (((KeepsNode.of_arb hseed).trans (State.enterRunning_keeps hstate)).trans
    (State.enqueue_keeps _ (f := .notice .started none 0) trivial)).trans (State.listen_keeps _)

theorem State.readGroup_keeps (s : State) (contacts : List ThrowSet) : KeepsNode s (s.readGroup contacts) := by
  have hread : KeepsNode s { s.elapse s.untilRead with scanReads := s.scanReads + 1 } :=
    (s.elapse_keeps _).trans (.of_eq rfl)
  have hjudged : KeepsNode s (State.forElems
      (((groupElems s.nextGroup).zip (contacts ++ List.replicate 8 0)).foldl State.storeSensed
        { s.elapse s.untilRead with scanReads := s.scanReads + 1 }) (groupElems s.nextGroup) State.judge) :=
    (hread.trans (KeepsNode.foldl (fun s (p : ElemNo × ThrowSet) => s.modElem_keeps p.1 _) _ _)).trans
      (State.forElems_keeps State.judge_keeps _ _)
  unfold State.readGroup
  dsimp only
  split
  next h => exact hjudged.trans (State.endSeeding_keeps h.1)
  next => exact hjudged

theorem execSenseGroupRead_keepsNode (contacts : List ThrowSet) (s : State) :
    Leads KeepsNode s (execSenseGroupRead contacts s) := by
  unfold execSenseGroupRead
  split
  · exact .next (s.readGroup_keeps contacts)
  · exact .next (.refl s)

/-! ### The image (section 11.3) -/

theorem execImageReadDone_keepsNode (image : List Byte) (s : State) :
    Leads KeepsNode s (execImageReadDone image s) := by
  have hgates : s.nodeState = .starting → s.gatesSafe → ∀ g, s.gate g ≠ true := fun hstate hs g hg => by
    have := hstate.symm.trans (hs g hg).1
    cases this
  unfold execImageReadDone
  split
  next h =>
    obtain ⟨hstate, -⟩ := h
    refine .next_ite (fun _ => ?_) fun _ => KeepsNode.trans ?_ (State.capture_keeps _ _ _ _)
    · refine ⟨⟨rfl, fun hs g hg => absurd hg (hgates hstate hs g), id, id, id, fun hs => ⟨hs.received, hs.queued,
        hs.sending, hs.waiting, hs.subject, hs.query, hs.ext, hs.hops, hs.step⟩, fun hs => ⟨hs.tx, hs.rx, hs.ext,
        hs.senders, hs.bad, hs.drops, hs.later, hs.scans⟩, fun hs => ?_, fun hs _ => hs (.inl hstate)⟩, id, .of_eq rfl⟩
      obtain ⟨hseq, hre, hup⟩ := hs
      rw [hstate] at hseq hre hup
      exact ⟨by simpa [State.acceptImage] using hseq, by simpa [State.acceptImage] using hre,
        by simpa [State.acceptImage] using hup⟩
    · refine ⟨⟨rfl, fun hs g hg => absurd hg (hgates hstate hs g), id, id, id, fun hs => ⟨hs.received, hs.queued,
        hs.sending, hs.waiting, hs.subject, hs.query, hs.ext, hs.hops, hs.step⟩, fun hs => ⟨hs.tx, hs.rx, hs.ext,
        hs.senders, hs.bad, hs.drops, hs.later, hs.scans⟩, fun hs => ?_, fun _ h => ?_⟩, id, .of_eq rfl⟩
      · obtain ⟨hseq, hre, -⟩ := hs
        rw [hstate] at hseq hre
        exact ⟨by simpa using hseq, by simpa using hre, by simp⟩
      · rcases h with h | h <;> cases h
  next => exact .next (.refl s)

/-! ### The steps of a warm restart (section 10.4) -/

/-- The restart sequence goes on, with no frame added to those that wait outside. -/
theorem State.setRestart_keeps {s : State} {r r' : RestartSeq} (hr : s.restart = some r)
    (hsub : r'.waiting ⊆ r.waiting) : KeepsNode s { s with restart := some r' } :=
  ⟨⟨rfl, id, id, id, id, fun hs => ⟨hs.received, hs.queued, hs.sending,
    fun _ h f hf => by cases h; exact hs.waiting r hr f (hsub hf), hs.subject, hs.query, hs.ext, hs.hops, hs.step⟩,
    fun hs => ⟨hs.tx, hs.rx, hs.ext, hs.senders, hs.bad, hs.drops, hs.later, hs.scans⟩,
    fun hs => ⟨by have := hs.sequence; rw [hr] at this; exact this, hs.restart, hs.startUp⟩, id⟩, id, .of_eq rfl⟩

theorem execTeardownFrameQueued_keepsNode (s : State) : Leads KeepsNode s (execTeardownFrameQueued s) := by
  unfold execTeardownFrameQueued
  split
  next r hr =>
    split
    next f fs hw =>
      split
      next hroom =>
        refine .next ((KeepsNode.refl s |>.trans_tx (State.push_txKept (.frame f) hroom) fun hs hfits =>
          hfits.append (List.Subset.refl _) (hs.waiting r hr f (by simp [hw]))).trans
            (State.setRestart_keeps hr (by simp [hw])))
      next => exact .next (.refl s)
    next => exact .next (.refl s)
  next => exact .next (.refl s)

theorem execRestartWithdrawalStep_keepsNode (s : State) : Leads KeepsNode s (execRestartWithdrawalStep s) := by
  unfold execRestartWithdrawalStep
  split
  next r hr =>
    split
    · exact .next (KeepsNode.trans (t := { s with moveQueue := [], laneHold := 0, orderHead := 0 }) (.of_eq rfl)
        (State.setRestart_keeps (r := r) hr (List.Subset.refl _)))
    · exact .next (.refl s)
  next => exact .next (.refl s)

theorem State.restartElem_touches (e : ElemNo) (s : State) : ArbTouched s (s.restartElem e) := by
  unfold State.restartElem
  split
  · exact .refl s
  · split
    · exact s.setElem_arb _ _
    · exact (s.withdraw_arb e).trans (State.release_touches _ _)
    · exact s.release_touches e
    · exact s.release_touches e
    · exact s.release_touches e
    · split
      · exact s.release_touches e
      · exact .refl s
    · split
      · exact .refl s
      · split
        · exact s.queueMove_touches _ _ _
        · exact .refl s
    all_goals exact .refl s

/-- The elements at the release step (R161). -/
theorem State.releaseElems_touches (s : State) : ArbTouched s
    ((s.forElems allElems State.restartElem).forElems allElems fun e s => s.modElem e (Element.dropHold s.config)) :=
  (s.forElems_arb _ _ State.restartElem_touches).trans (State.forElems_arb _ _ _ fun e s => s.modElem_arb e _)

theorem mem_leavingOnly {q : List TxEntry} {e : TxEntry} (h : e ∈ leavingOnly q) : ∃ e' ∈ q, e'.item = e.item := by
  obtain ⟨e', he', rfl⟩ := List.mem_map.1 h
  exact ⟨e', List.mem_of_mem_filter he', rfl⟩

theorem leavingOnly_length_le (q : List TxEntry) : (leavingOnly q).length ≤ q.length := by
  simpa [leavingOnly] using List.length_filter_le _ q

/-- The end of a warm restart empties slots, gates and queues (R162); it comes while a restart is under way. -/
theorem State.clearForRestart_keeps {s : State} (hr : s.restart.isSome = true) : KeepsNode s s.clearForRestart := by
  have hcleared : KeepsNode s { s with slots := Vector.replicate 8 .idle, gateOut := Vector.replicate 8 false } := by
    refine (KeepsNode.refl s).trans_slots fun g => .inl ?_
    change SlotMove _ _ _ ((Vector.replicate 8 Slot.idle)[g], (Vector.replicate 8 false)[g])
    rw [Fin.getElem_fin, Fin.getElem_fin, Vector.getElem_replicate, Vector.getElem_replicate]
    exact .clear
  have hline : KeepsNode s { s with txQueue := leavingOnly s.txQueue, reportSlot :=
      (if s.txQueue.any (fun e => e.inTransmission && e.item == .report) then s.reportSlot else none) } :=
    .of_line (leavingOnly_length_le _) (fun _ => mem_leavingOnly) (fun hs => hs.sending) (fun hs => hs.query)
      fun hs u hu => by
        split at hu
        · exact hs.subject u hu
        · cases hu
  refine ⟨⟨rfl, fun _ g hg => ?_, hcleared.ready, hcleared.slots, hcleared.scans, fun hs => ?_, fun hs => ?_,
    fun hs => ?_, fun _ _ => rfl⟩, id, .of_eq rfl⟩
  · have : (Vector.replicate 8 false)[g] = true := hg
    simp at this
  · have hq := hline.frames hs
    have hc := hcleared.frames hs
    exact ⟨nofun, hq.queued, hs.sending, nofun, hq.subject, hs.query, nofun, hc.hops, hc.step⟩
  · have hc := hcleared.bounds hs
    exact ⟨(hline.bounds hs).tx, Nat.zero_le _, Nat.zero_le _, List.nodup_nil, hs.bad, hs.drops, hs.later, hc.scans⟩
  · have hstart := hs.startUp
    rw [hs.sequence.1 hr] at hstart
    exact ⟨by simp [State.clearForRestart], by simp [State.clearForRestart],
      by simpa [State.clearForRestart] using hstart⟩

theorem execRestartReleaseStep_keepsNode (s : State) : Leads KeepsNode s (execRestartReleaseStep s) := by
  unfold execRestartReleaseStep
  split
  next r hr =>
    split
    case isFalse => exact .next (.refl s)
    have helems := s.releaseElems_touches
    refine .next ((((KeepsNode.of_arb helems).trans (State.clearForRestart_keeps ?_)).trans
      (State.enqueue_keeps _ (f := .notice .started none 0) trivial)).trans
        (.of_arb ((State.startUnheld_touches _).trans (State.grants_touches _))))
    rw [helems.restart, hr]
    rfl
  next => exact .next (.refl s)

end Sys2Proof.Machine
end

section
/-!
PROOFS. The cold start and what every command and every step keeps: O1 to O5, O53, O56 and O58.
-/

namespace Sys2Proof.Machine

/-! ### The state right after reset -/

@[simp] theorem State.reset_elem (e : ElemNo) : State.reset.elem e = none := by
  simp [State.elem, State.reset]

@[simp] theorem State.reset_control (e : ElemNo) : State.reset.control e = 0 := by
  simp [State.control, State.reset]

@[simp] theorem State.reset_channel (c : ChannelNo) : State.reset.channel c = .idle := by
  simp [State.channel, State.reset]

@[simp] theorem State.reset_slot (g : Gate) : State.reset.slot g = .idle := by
  simp [State.slot, State.reset]

@[simp] theorem State.reset_gate (g : Gate) : State.reset.gate g = false := by
  simp [State.gate, State.reset]

theorem State.reset_arbiterSafe : State.reset.arbiterSafe where
  pend e h := by cases h
  serve e h := by cases h
  pulse c e h := by simp [Channel.pulses] at h
  one := List.nodup_nil
  moving e x h := by simp at h
  marked m h := by cases h
  waiting _ e x h := by simp at h
  returning _ e x h := by simp at h
  start _ := ⟨rfl, rfl, State.reset_elem⟩
  seed h := by cases h

/-- Nothing is received, queued, on the line or held in a slot. -/
theorem State.reset_framesSafe : State.reset.framesSafe where
  received _ h := by cases h
  queued _ h := by cases h
  sending _ h := by cases h
  waiting _ h := by cases h
  subject _ h := by cases h
  query _ h := by cases h
  ext _ h := by cases h
  hops g h := by simp [Slot.idle] at h
  step g k h := by simp [Slot.idle] at h

theorem State.reset_bounded : State.reset.bounded where
  tx := Nat.zero_le _
  rx := Nat.zero_le _
  ext := Nat.zero_le _
  senders := List.nodup_nil
  bad := Nat.zero_le _
  drops := Nat.zero_le _
  later := Nat.zero_le _
  scans g sc h := by simp [Slot.idle] at h

theorem State.reset_drivesSafe : State.reset.drivesSafe := ⟨by decide, by decide, by decide⟩

theorem State.reset_not_running : State.reset.nodeState ≠ .running := nofun

/-- Settles O4: each law of the state right after reset, which holds nothing. -/
theorem lawsHoldAtReset : Obligations.LawsHoldAtReset :=
  ⟨fun g h => by simp at h, fun g h => by simp [Slot.idle] at h, fun g => State.reset_slot g ▸ Slot.idle_slotSafe,
    fun g sc h => by simp [Slot.idle] at h, State.reset_arbiterSafe, fun e x h => by simp at h,
    fun e x h => by simp at h, ⟨fun e h => by simp at h, fun _ => State.reset_control⟩, State.reset_framesSafe,
    State.reset_bounded, State.reset_drivesSafe, fun _ => rfl, fun h => State.reset_not_running h.1,
    fun h => State.reset_not_running h.1⟩

/-- A cold start keeps every law, as the state right after reset has them all. -/
theorem State.coldStart_keepsLaws (s : State) : KeepsLaws s s.coldStart := by
  obtain ⟨hgates, hready, hslots, hscans, -, -, -, -, hframes, hbounds, hdrives, hext, -, -⟩ := lawsHoldAtReset
  exact ⟨rfl, fun _ => hgates, fun _ => hready, fun _ => hslots, fun _ => hscans,
    fun _ => ⟨hframes.received, hframes.queued, hframes.sending, hframes.waiting, hframes.subject, hframes.query,
      hframes.ext, hframes.hops, hframes.step⟩,
    fun _ => ⟨hbounds.tx, hbounds.rx, hbounds.ext, hbounds.senders, hbounds.bad, hbounds.drops, hbounds.later,
      hbounds.scans⟩, fun _ => ⟨hdrives.sequence, hdrives.restart, hdrives.startUp⟩, fun _ => hext⟩

/-- Settles O3: a cold start is the state right after reset, but for the level of COILOK, the count of free values
and the queue of commands. -/
theorem resetLowGivesColdStart : Obligations.ResetLowGivesColdStart := by
  intro s
  refine ⟨s.coldStart, rfl, rfl, rfl, rfl, rfl, rfl, rfl, rfl, rfl, fun g => ⟨State.reset_gate g, State.reset_slot g⟩,
    fun c => ⟨State.reset_channel c, ?_⟩, fun e => ⟨State.reset_elem e, State.reset_control e⟩, rfl, rfl, rfl, rfl, rfl,
    rfl, rfl, rfl, rfl, rfl, rfl, rfl, rfl⟩
  rw [show s.coldStart.channel c = .idle from State.reset_channel c]
  rfl

/-- Settles O5: the straps are the address, and the read command and the address 0 go to the memory. -/
theorem resetHighStartsImageRead : Obligations.ResetHighStartsImageRead := by
  intro straps s
  refine ⟨fun h => ⟨s.startImageRead straps, if_pos h, rfl, rfl⟩, fun h => if_neg h⟩

/-- Settles O1: a step is `exec` on the front command, and on an empty queue one unit of every timer. -/
theorem stepRunsFrontCommand : Obligations.StepRunsFrontCommand :=
  ⟨fun _ _ _ => rfl, fun s h => ⟨s.elapse 1, by rw [step, h], rfl, rfl, s.channel_elapse 1, s.slot_elapse 1,
    s.elem_elapse 1⟩⟩

/-! ### Every command and every step -/

/-- Every command but a cold start and a CLEARFAULT keeps the laws and the lock of the fault record. -/
theorem exec_keepsNode {c : Instr} (s : State) (hreset : c ≠ .resetLow) (hclear : c ≠ .frameSeenClearfault) :
    Leads KeepsNode s (exec c s) := by
  cases c with
  | resetLow => exact absurd rfl hreset
  | resetHigh straps => exact execResetHigh_keepsNode straps s
  | imageReadDone image => exact execImageReadDone_keepsNode image s
  | senseGroupRead contacts => exact execSenseGroupRead_keepsNode contacts s
  | moveDExpires e => exact execMoveDExpires_keepsNode e s
  | cascadeFrontPulseEnd ch => exact execCascadeFrontPulseEnd_keepsNode ch s
  | cascadeGapEnd ch => exact execCascadeGapEnd_keepsNode ch s
  | pulsingEnd ch => exact execPulsingEnd_keepsNode ch s
  | channelRecoveryEnd ch => exact execChannelRecoveryEnd_keepsNode ch s
  | coilokRise => exact execCoilokRise_keepsNode s
  | coilokFall => exact execCoilokFall_keepsNode s
  | tentativeClaimTimerExpiry h => exact execTentativeClaimTimerExpiry_keepsNode h s
  | setupStepTimerExpiry g => exact execSetupStepTimerExpiry_keepsNode g s
  | quenchTimerExpiryRelease g => exact execQuenchTimerExpiryRelease_keepsNode g s
  | quenchTimerExpiryStep g => exact execQuenchTimerExpiryStep_keepsNode g s
  | resumeTimerExpiry g => exact execResumeTimerExpiry_keepsNode g s
  | triggerEdge g => exact execTriggerEdge_keepsNode g s
  | quenchAssertionSensed => exact execQuenchAssertionSensed_keepsNode s
  | quenchReleaseSensed => exact execQuenchReleaseSensed_keepsNode s
  | lineIdleResync => exact execLineIdleResync_keepsNode s
  | txAttemptStart => exact execTxAttemptStart_keepsNode s
  | arbitrationLost => exact execArbitrationLost_keepsNode s
  | arbitrationWon => exact execArbitrationWon_keepsNode s
  | frameEnd frame flagged => exact execFrameEnd_keepsNode frame flagged s
  | frameSeenRoute => exact execFrameSeenRoute_keepsNode s
  | frameSeenRouteExt => exact execFrameSeenRouteExt_keepsNode s
  | frameSeenAccept => exact execFrameSeenAccept_keepsNode s
  | frameSeenRefuse => exact execFrameSeenRefuse_keepsNode s
  | frameSeenHopstat => exact execFrameSeenHopstat_keepsNode s
  | frameSeenHot => exact execFrameSeenHot_keepsNode s
  | frameSeenCold => exact execFrameSeenCold_keepsNode s
  | frameSeenRelease => exact execFrameSeenRelease_keepsNode s
  | frameSeenBreak => exact execFrameSeenBreak_keepsNode s
  | frameSeenScan => exact execFrameSeenScan_keepsNode s
  | frameSeenAdvance => exact execFrameSeenAdvance_keepsNode s
  | frameSeenDrop => exact execFrameSeenDrop_keepsNode s
  | frameSeenLanehold => exact execFrameSeenLanehold_keepsNode s
  | frameSeenQuery => exact execFrameSeenQuery_keepsNode s
  | frameSeenReport => exact execFrameSeenReport_keepsNode s
  | frameSeenNotice => exact execFrameSeenNotice_keepsNode s
  | frameSeenClearfault => exact absurd rfl hclear
  | frameSeenRestart => exact execFrameSeenRestart_keepsNode s
  | teardownFrameQueued => exact execTeardownFrameQueued_keepsNode s
  | restartWithdrawalStep => exact execRestartWithdrawalStep_keepsNode s
  | restartReleaseStep => exact execRestartReleaseStep_keepsNode s
  | overLongFrame => exact execOverLongFrame_keepsNode s

/-- Every command keeps the laws. -/
theorem exec_keepsLaws (c : Instr) (s : State) : Leads KeepsLaws s (exec c s) := by
  by_cases hreset : c = .resetLow
  · subst hreset
    exact .next s.coldStart_keepsLaws
  · by_cases hclear : c = .frameSeenClearfault
    · subst hclear
      exact execFrameSeenClearfault_keepsLaws s
    · obtain ⟨t, ht, hkeeps⟩ := exec_keepsNode s hreset hclear
      exact ⟨t, ht, hkeeps.toKeepsLaws⟩

/-- The laws do not speak of the queue of commands. -/
theorem State.setPending_keepsLaws (s : State) (cs : List Instr) {t : State}
    (h : KeepsLaws { s with pending := cs } t) : KeepsLaws { s with pending := t.pending } t := by
  rw [h.pending]
  exact h

/-- A step keeps each of the laws. -/
theorem step_keepsLaws {s t : State} (h : step s = .next t) : KeepsLaws { s with pending := t.pending } t := by
  unfold step at h
  split at h
  · cases h
    exact (s.elapse_keeps 1).toKeepsLaws
  · exact s.setPending_keepsLaws _ ((exec_keepsLaws _ _).of_next h)

/-- Settles O53: each law of the anchor unit and of the frames held, of each command in turn. -/
theorem stepKeepsGatesAndSlots : Obligations.StepKeepsGatesAndSlots := by
  intro s t h
  have hkeeps := step_keepsLaws h
  exact ⟨hkeeps.gates, hkeeps.ready, hkeeps.slots, hkeeps.scans, fun hs => hkeeps.frames ⟨hs.received, hs.queued,
    hs.sending, hs.waiting, hs.subject, hs.query, hs.ext, hs.hops, hs.step⟩⟩

/-- Settles O56: each bound and drive reason, of each command in turn. -/
theorem stepKeepsBoundsAndDrives : Obligations.StepKeepsBoundsAndDrives := by
  intro s t h
  have hkeeps := step_keepsLaws h
  exact ⟨fun hs => hkeeps.bounds ⟨hs.tx, hs.rx, hs.ext, hs.senders, hs.bad, hs.drops, hs.later, hs.scans⟩,
    fun hs => hkeeps.drives ⟨hs.sequence, hs.restart, hs.startUp⟩, hkeeps.ext⟩

/-- Settles O2: every command answers a next state that keeps the queue of commands. -/
theorem everyCommandCompletes : Obligations.EveryCommandCompletes := by
  intro c s
  obtain ⟨t, ht, hkeeps⟩ := exec_keepsLaws c s
  exact ⟨t, ht, hkeeps.pending⟩

/-- A CLEARFAULT that the node does not obey only leaves the receive queue (R156). -/
theorem execFrameSeenClearfault_not_obeyed {s : State}
    (h : ¬(s.nodeState = .running ∧ ∃ a target, s.headFrame = some ⟨a, .clearFault target⟩ ∧
      s.addressedBy target = true)) : Leads KeepsNode s (execFrameSeenClearfault s) := by
  unfold execFrameSeenClearfault
  split
  next a target hhead =>
    refine .next_ite (fun hobeys => ?_) fun _ => s.popFrame_keeps
    simp only [State.obeys, Bool.and_eq_true, beq_iff_eq] at hobeys
    exact absurd ⟨hobeys.1, a, target, hhead, hobeys.2⟩ h
  next => exact .next (.refl s)

/-- Settles O58: of the commands only a cold start and a CLEARFAULT empty the record. -/
theorem faultRecordStaysLocked : Obligations.FaultRecordStaysLocked := by
  intro c s t k hexec hk hbounded hreset hclear
  have hkeeps : Leads KeepsNode s (exec c s) := by
    by_cases hc : c = .frameSeenClearfault
    · subst hc
      exact execFrameSeenClearfault_not_obeyed fun h => hclear ⟨rfl, h⟩
    · exact exec_keepsNode s hreset hc
  obtain ⟨hkind, hloc, hhandle, hlater⟩ := (hkeeps.of_next hexec).locked hbounded.later k hk
  exact ⟨hkind, hloc, hhandle, hlater, by rw [State.faultOutput, hkind]; rfl⟩

end Sys2Proof.Machine
end

section
/-!
PROOFS. The drive arbiter: what each element's moves are, what the starts of pending moves do to each element, and the
laws of the arbiter and of element states said element by element.
-/

namespace Sys2Proof.Machine

/-! ### The start of a move at its element (R7, R12, R29, R47) -/

/-- What a start writes: a return of an F element to throw 0 also ends its hold and counts as an actuation. -/
theorem Element.startMove_eq (cfg : ImageConfig) (k : Throw) (x : Element) :
    x.startMove cfg k =
      if x.cls = .failsafe ∧ k = 0 then
        { x with
          commanded := some k, state := if x.state = .waiting then .moving else x.state, hold := none
          wear := min (x.wear + 1) Config.wearMax
          wearWarning := warningOf cfg .failsafe (min (x.wear + 1) Config.wearMax) }
      else { x with commanded := some k, state := if x.state = .waiting then .moving else x.state } := by
  cases hc : x.cls <;> simp [Element.startMove, Element.addWear, hc]

section
variable (cfg : ImageConfig) (k : Throw) (x : Element)

@[simp] theorem Element.startMove_cls : (x.startMove cfg k).cls = x.cls := by rw [x.startMove_eq]; split <;> rfl
@[simp] theorem Element.startMove_owner : (x.startMove cfg k).owner = x.owner := by rw [x.startMove_eq]; split <;> rfl
@[simp] theorem Element.startMove_target : (x.startMove cfg k).target = x.target := by
  rw [x.startMove_eq]; split <;> rfl
@[simp] theorem Element.startMove_sensed : (x.startMove cfg k).sensed = x.sensed := by
  rw [x.startMove_eq]; split <;> rfl
@[simp] theorem Element.startMove_verifyDue : (x.startMove cfg k).verifyDue = x.verifyDue := by
  rw [x.startMove_eq]; split <;> rfl
@[simp] theorem Element.startMove_wearWarning_of_ne (h : x.cls ≠ .failsafe) :
    (x.startMove cfg k).wearWarning = x.wearWarning := by
  rw [x.startMove_eq, if_neg fun hc => h hc.1]
theorem Element.startMove_state : (x.startMove cfg k).state = if x.state = .waiting then .moving else x.state := by
  rw [x.startMove_eq]; split <;> rfl

end

/-- The element whose move starts had it pending; then its move is in service (R12, R50). -/
theorem Element.mayPend.startMove {x : Element} (h : x.mayPend) (cfg : ImageConfig) (k : Throw) :
    (x.startMove cfg k).mayMove := by
  rcases h with h | ⟨h, hdue⟩
  · exact .inl (by simp [Element.startMove_state, h])
  · exact .inr ⟨by simp [Element.startMove_state, h], by simp [hdue]⟩

/-- A start leaves a record as its state says. -/
theorem Element.stateSafe.startMove {x : Element} (h : x.stateSafe) (cfg : ImageConfig) (k : Throw) :
    (x.startMove cfg k).stateSafe := by
  have hstart : ({ x with
      commanded := some k, state := if x.state = .waiting then .moving else x.state } : Element).stateSafe := by
    obtain ⟨noOwner, tentative, owned, released, noTarget, hasTarget, step, retry, due, run⟩ := h
    by_cases hw : x.state = .waiting
    · rw [if_pos hw]
      simp only [hw] at *
      refine ⟨by simp, fun o ho => by simpa using tentative o ho, by simp, ?_, by simp, by simpa using hasTarget, step,
        by simp, by simpa using due, by simp⟩
      obtain ⟨o, ho⟩ := Option.isSome_iff_exists.1 (owned (by simp))
      simpa [ho] using released
    · rw [if_neg hw]
      exact ⟨noOwner, tentative, owned, released, noTarget, hasTarget, step, retry, due, run⟩
  rw [x.startMove_eq]
  split
  · exact ⟨hstart.noOwner, hstart.tentative, hstart.owned, hstart.released, hstart.noTarget, hstart.hasTarget,
      hstart.step, hstart.retry, hstart.due, hstart.run⟩
  · exact hstart

/-! ### The moves of one element -/

/-- The entries of the arrival order for an element. -/
def State.entriesOf (s : State) (e : ElemNo) : List MoveEntry := s.moveQueue.filter (fun m => m.elem == e)

/-- The service records of an element. -/
def State.servicesOf (s : State) (e : ElemNo) : List Service := s.services.filter (fun v => v.elem == e)

theorem State.mem_entriesOf {s : State} {e : ElemNo} {m : MoveEntry} :
    m ∈ s.entriesOf e ↔ m ∈ s.moveQueue ∧ m.elem = e := by simp [State.entriesOf]

theorem State.mem_servicesOf {s : State} {e : ElemNo} {v : Service} :
    v ∈ s.servicesOf e ↔ v ∈ s.services ∧ v.elem = e := by simp [State.servicesOf]

theorem State.mem_of_entriesOf {s : State} {e : ElemNo} {m : MoveEntry} (h : s.entriesOf e = [m]) :
    m ∈ s.moveQueue ∧ m.elem = e := State.mem_entriesOf.1 (h ▸ List.mem_singleton_self m)

theorem State.mem_of_servicesOf {s : State} {e : ElemNo} {v : Service} (h : s.servicesOf e = [v]) :
    v ∈ s.services ∧ v.elem = e := State.mem_servicesOf.1 (h ▸ List.mem_singleton_self v)

theorem State.hasEntry_iff {s : State} {e : ElemNo} : s.hasEntry e = true ↔ ∃ m ∈ s.moveQueue, m.elem = e := by
  simp [State.hasEntry]

theorem State.hasService_iff {s : State} {e : ElemNo} : s.hasService e = true ↔ ∃ v ∈ s.services, v.elem = e := by
  simp [State.hasService]

theorem State.entriesOf_eq_nil {s : State} {e : ElemNo} : s.entriesOf e = [] ↔ s.hasEntry e = false := by
  simp [State.entriesOf, State.hasEntry]

theorem State.servicesOf_eq_nil {s : State} {e : ElemNo} : s.servicesOf e = [] ↔ s.hasService e = false := by
  simp [State.servicesOf, State.hasService]

theorem State.hasEntry_congr {s t : State} {e : ElemNo} (h : t.entriesOf e = s.entriesOf e) :
    t.hasEntry e = s.hasEntry e := by
  rw [Bool.eq_iff_iff, ← Bool.not_eq_false, ← Bool.not_eq_false, ← State.entriesOf_eq_nil, ← State.entriesOf_eq_nil, h]

theorem State.hasService_congr {s t : State} {e : ElemNo} (h : t.servicesOf e = s.servicesOf e) :
    t.hasService e = s.hasService e := by
  rw [Bool.eq_iff_iff, ← Bool.not_eq_false, ← Bool.not_eq_false, ← State.servicesOf_eq_nil,
    ← State.servicesOf_eq_nil, h]

/-- No move of the element is pending, in service or on a channel. -/
structure State.bareAt (s : State) (e : ElemNo) : Prop where
  entries  : s.entriesOf e = []
  services : s.servicesOf e = []
  pulses   : ∀ c, (s.channel c).pulses e = false

/-- Where the move of an element stands (R37, R50): nowhere, in the arrival order or in service. An element on its
way has a move while moves are held to account, which a warm restart suspends (R161). -/
inductive State.Place (s : State) (accounted : Prop) (e : ElemNo) : Prop
  | idle (bare : s.bareAt e)
      (moving : ∀ x, s.elem e = some x → x.state ≠ .moving)
      (held : accounted → ∀ x, s.elem e = some x → ¬x.mayPend)
  | pending (m : MoveEntry) (x : Element) (entries : s.entriesOf e = [m]) (services : s.servicesOf e = [])
      (pulses : ∀ c, (s.channel c).pulses e = false) (elem : s.elem e = some x) (mayPend : x.mayPend)
      (marked : m.needsChannel = needsChannel x.cls m.target)
  | serving (v : Service) (x : Element) (entries : s.entriesOf e = []) (services : s.servicesOf e = [v])
      (elem : s.elem e = some x) (mayMove : x.mayMove)

theorem State.Place.mono {s : State} {p q : Prop} {e : ElemNo} (h : s.Place p e) (hq : q → p) : s.Place q e := by
  cases h with
  | idle bare moving held => exact .idle bare moving fun hq' => held (hq hq')
  | pending m x entries services pulses elem mayPend marked =>
    exact .pending m x entries services pulses elem mayPend marked
  | serving v x entries services elem mayMove => exact .serving v x entries services elem mayMove

/-- The laws of the arbiter and of element states, for one element. -/
structure State.lawAt (s : State) (e : ElemNo) : Prop where
  place : s.Place (s.restart = none) e
  state : ∀ x, s.elem e = some x → x.stateSafe
  seed  : s.nodeState = .seeding → ∀ x, s.elem e = some x → x.state = .free
  start : s.nodeState = .starting → s.elem e = none

/-- The laws of the arbiter and of element states (O54), for every element. -/
def State.lawful (s : State) : Prop := ∀ e, s.lawAt e

/-! ### The laws element by element are the laws of the arbiter and of element states -/

theorem filter_eq_nil_or_singleton {α β : Type} [DecidableEq β] {f : α → β} {l : List α} (h : (l.map f).Nodup) (b : β) :
    l.filter (fun a => f a == b) = [] ∨ ∃ a, l.filter (fun a => f a == b) = [a] := by
  have hlen : (l.filter (fun a => f a == b)).length ≤ 1 := by
    have hcount := List.nodup_iff_count_le_one.1 h b
    rwa [List.count_eq_countP, List.countP_map, List.countP_eq_length_filter] at hcount
  match hl : l.filter (fun a => f a == b) with
  | [] => exact .inl rfl
  | [a] => exact .inr ⟨a, rfl⟩
  | _ :: _ :: _ => rw [hl] at hlen; simp at hlen

theorem State.arbiterSafe.place {s : State} (h : s.arbiterSafe) (e : ElemNo) : s.Place (s.restart = none) e := by
  obtain ⟨hqueue, hserve, hdisjoint⟩ := List.nodup_append.1 h.one
  have hpulses : s.hasService e = false → ∀ c, (s.channel c).pulses e = false := fun hv c => by
    by_contra hc
    rw [h.pulse c e (by simpa using hc)] at hv
    cases hv
  rcases filter_eq_nil_or_singleton hserve e with hv | ⟨v, hv⟩
  · have hnone := State.servicesOf_eq_nil.1 hv
    rcases filter_eq_nil_or_singleton hqueue e with hm | ⟨m, hm⟩
    · have hentry := State.entriesOf_eq_nil.1 hm
      refine .idle ⟨hm, hv, hpulses hnone⟩ (fun x hx hmoving => ?_) fun hr x hx hpend => ?_
      · rw [h.moving e x hx hmoving] at hnone; cases hnone
      · rcases hpend with hw | ⟨hret, hdue⟩
        · rw [h.waiting hr e x hx hw] at hentry; cases hentry
        · rcases h.returning hr e x hx hret hdue with h' | h'
          · rw [h'] at hentry; cases hentry
          · rw [h'] at hnone; cases hnone
    · obtain ⟨hmem, rfl⟩ := State.mem_of_entriesOf hm
      obtain ⟨x, hx, hpend⟩ := h.pend m.elem (State.hasEntry_iff.2 ⟨m, hmem, rfl⟩)
      exact .pending m x hm hv (hpulses hnone) hx hpend (h.marked m hmem x hx)
  · obtain ⟨hmem, rfl⟩ := State.mem_of_servicesOf hv
    obtain ⟨x, hx, hmove⟩ := h.serve v.elem (State.hasService_iff.2 ⟨v, hmem, rfl⟩)
    refine .serving v x ?_ hv hx hmove
    rw [State.entriesOf, List.filter_eq_nil_iff]
    intro m hm heq
    exact hdisjoint m.elem (List.mem_map_of_mem hm) v.elem (List.mem_map_of_mem hmem) (by simpa using heq)

theorem State.arbiterSafe.lawful {s : State} (h : s.arbiterSafe) (hstates : s.statesSafe) : s.lawful :=
  fun e => ⟨h.place e, hstates e, fun hn => (h.seed hn).2.2 e, fun hn => (h.start hn).2.2 e⟩

theorem State.lawful.statesSafe {s : State} (h : s.lawful) : s.statesSafe := fun e => (h e).state

theorem State.Place.of_entry {s : State} {p : Prop} {e : ElemNo} (h : s.Place p e) (he : s.hasEntry e = true) :
    ∃ m x, s.entriesOf e = [m] ∧ s.servicesOf e = [] ∧ s.elem e = some x ∧ x.mayPend ∧
      m.needsChannel = Machine.needsChannel x.cls m.target := by
  cases h with
  | idle bare => rw [State.entriesOf_eq_nil.1 bare.entries] at he; cases he
  | pending m x entries services pulses elem mayPend marked =>
    exact ⟨m, x, entries, services, elem, mayPend, marked⟩
  | serving v x entries => rw [State.entriesOf_eq_nil.1 entries] at he; cases he

theorem State.Place.of_service {s : State} {p : Prop} {e : ElemNo} (h : s.Place p e) (he : s.hasService e = true) :
    ∃ v x, s.entriesOf e = [] ∧ s.servicesOf e = [v] ∧ s.elem e = some x ∧ x.mayMove := by
  cases h with
  | idle bare => rw [State.servicesOf_eq_nil.1 bare.services] at he; cases he
  | pending m x entries services => rw [State.servicesOf_eq_nil.1 services] at he; cases he
  | serving v x entries services elem mayMove => exact ⟨v, x, entries, services, elem, mayMove⟩

theorem State.Place.pulses {s : State} {p : Prop} {e : ElemNo} (h : s.Place p e) {c : ChannelNo}
    (hc : (s.channel c).pulses e = true) : s.hasService e = true := by
  cases h with
  | idle bare => rw [bare.pulses c] at hc; cases hc
  | pending m x entries services pulses => rw [pulses c] at hc; cases hc
  | serving v x entries services =>
    refine State.hasService_iff.2 ⟨v, ?_⟩
    exact State.mem_of_servicesOf services

/-- An element that is neither to move nor moving has no move (R37, R50). -/
theorem State.Place.bareAt {s : State} {p : Prop} {e : ElemNo} {x : Element} (h : s.Place p e)
    (hx : s.elem e = some x) (hpend : ¬x.mayPend) (hmoving : x.state ≠ .moving) : s.bareAt e := by
  cases h with
  | idle bare => exact bare
  | pending m y entries services pulses elem mayPend => exact absurd (Option.some.inj (hx.symm.trans elem) ▸ mayPend) hpend
  | serving v y entries services elem mayMove =>
    cases hx.symm.trans elem
    rcases mayMove with h | h
    · exact absurd h hmoving
    · exact absurd (.inr h) hpend

/-- At most one move for each element, pending or in service. -/
theorem State.one_of_places {s : State} {p : Prop} (h : ∀ e, s.Place p e) :
    (s.moveQueue.map (·.elem) ++ s.services.map (·.elem)).Nodup := by
  refine List.nodup_iff_count_le_one.2 fun e => ?_
  have hcount : (s.moveQueue.map (·.elem) ++ s.services.map (·.elem)).count e =
      (s.entriesOf e).length + (s.servicesOf e).length := by
    rw [List.count_append, List.count_eq_countP, List.count_eq_countP, List.countP_map, List.countP_map,
      List.countP_eq_length_filter, List.countP_eq_length_filter]
    rfl
  rw [hcount]
  cases h e with
  | idle bare => simp [bare.entries, bare.services]
  | pending m x entries services => simp [entries, services]
  | serving v x entries services => simp [entries, services]

/-- Elements that are all FREE, or none in use, have no moves. -/
theorem State.no_moves_of_places {s : State} {p : Prop} (h : ∀ e, s.Place p e) (hfree : ∀ e x, s.elem e = some x → x.state = .free) :
    s.moveQueue = [] ∧ s.services = [] := by
  refine ⟨List.eq_nil_iff_forall_not_mem.2 fun m hm => ?_, List.eq_nil_iff_forall_not_mem.2 fun v hv => ?_⟩
  · obtain ⟨_, x, -, -, hx, hpend, -⟩ := (h m.elem).of_entry (State.hasEntry_iff.2 ⟨m, hm, rfl⟩)
    rcases hpend with hs | ⟨hs, -⟩ <;> cases (hfree _ x hx).symm.trans hs
  · obtain ⟨_, x, -, -, hx, hmove⟩ := (h v.elem).of_service (State.hasService_iff.2 ⟨v, hv, rfl⟩)
    rcases hmove with hs | ⟨hs, -⟩ <;> cases (hfree _ x hx).symm.trans hs

theorem State.arbiterSafe_of_places {s : State} (h : ∀ e, s.Place (s.restart = none) e)
    (hstart : s.nodeState = .starting → ∀ e, s.elem e = none)
    (hseed : s.nodeState = .seeding → ∀ e x, s.elem e = some x → x.state = .free) : s.arbiterSafe where
  pend e he := by
    obtain ⟨_, x, -, -, hx, hpend, -⟩ := (h e).of_entry he
    exact ⟨x, hx, hpend⟩
  serve e he := by
    obtain ⟨_, x, -, -, hx, hmove⟩ := (h e).of_service he
    exact ⟨x, hx, hmove⟩
  pulse c e := (h e).pulses
  one := State.one_of_places h
  moving e x hx hmoving := by
    cases h e with
    | idle _ moving => exact absurd hmoving (moving x hx)
    | pending m y _ _ _ elem mayPend =>
      cases hx.symm.trans elem
      rcases mayPend with hs | ⟨hs, -⟩ <;> cases hmoving.symm.trans hs
    | serving v _ _ services =>
      exact State.hasService_iff.2 ⟨v, State.mem_of_servicesOf services⟩
  marked m hm x hx := by
    obtain ⟨m', y, hentries, -, hy, -, hmarked⟩ := (h m.elem).of_entry (State.hasEntry_iff.2 ⟨m, hm, rfl⟩)
    have hmem : m ∈ s.entriesOf m.elem := State.mem_entriesOf.2 ⟨hm, rfl⟩
    rw [hentries, List.mem_singleton] at hmem
    cases hx.symm.trans hy
    rwa [hmem]
  waiting hr e x hx hw := by
    cases h e with
    | idle _ _ held => exact absurd (.inl hw) (held hr x hx)
    | pending m _ entries =>
      exact State.hasEntry_iff.2 ⟨m, State.mem_of_entriesOf entries⟩
    | serving v y _ _ elem mayMove =>
      cases hx.symm.trans elem
      rcases mayMove with hs | ⟨hs, -⟩ <;> cases hw.symm.trans hs
  returning hr e x hx hret hdue := by
    cases h e with
    | idle _ _ held => exact absurd (.inr ⟨hret, hdue⟩) (held hr x hx)
    | pending m _ entries =>
      exact .inl (State.hasEntry_iff.2 ⟨m, State.mem_of_entriesOf entries⟩)
    | serving v _ _ services =>
      exact .inr (State.hasService_iff.2 ⟨v, State.mem_of_servicesOf services⟩)
  start hn := by
    have hnone := hstart hn
    obtain ⟨hqueue, hserve⟩ := State.no_moves_of_places h fun e x hx => by rw [hnone e] at hx; cases hx
    exact ⟨hqueue, hserve, hnone⟩
  seed hn := by
    have hfree := hseed hn
    obtain ⟨hqueue, hserve⟩ := State.no_moves_of_places h hfree
    exact ⟨hqueue, hserve, hfree⟩

theorem State.lawful.arbiterSafe {s : State} (h : s.lawful) : s.arbiterSafe :=
  State.arbiterSafe_of_places (fun e => (h e).place) (fun hn e => (h e).start hn) fun hn e => (h e).seed hn

theorem State.lawful.one {s : State} (h : s.lawful) :
    (s.moveQueue.map (·.elem) ++ s.services.map (·.elem)).Nodup := State.one_of_places fun e => (h e).place

theorem State.lawful.no_moves {s : State} (h : s.lawful) (hfree : ∀ e x, s.elem e = some x → x.state = .free) :
    s.moveQueue = [] ∧ s.services = [] := State.no_moves_of_places (fun e => (h e).place) hfree

end Sys2Proof.Machine
end

section
/-!
PROOFS. The starts of pending moves, one after another: what they do to each element, to the arrival order, to the
moves in service and to the channels.
-/

namespace Sys2Proof.Machine

/-! ### The fields that frame the arbiter -/

/-- `t` has the node state, the figures, the held lanes and the level of COILOK of `s`, and a warm restart under way
as `s` has. -/
structure ArbFrame (s t : State) : Prop where
  nodeState : t.nodeState = s.nodeState
  config    : t.config = s.config
  laneHold  : t.laneHold = s.laneHold
  coilOk    : t.coilOk = s.coilOk
  restart   : t.restart.isSome = s.restart.isSome

theorem ArbFrame.refl (s : State) : ArbFrame s s := ⟨rfl, rfl, rfl, rfl, rfl⟩

theorem ArbFrame.trans {s t u : State} (h : ArbFrame s t) (k : ArbFrame t u) : ArbFrame s u :=
  ⟨k.nodeState.trans h.nodeState, k.config.trans h.config, k.laneHold.trans h.laneHold, k.coilOk.trans h.coilOk,
    k.restart.trans h.restart⟩

theorem ArbTouched.frame {s t : State} (h : ArbTouched s t) : ArbFrame s t :=
  ⟨h.nodeState, h.config, h.laneHold, h.coilOk, by rw [h.restart]⟩

theorem ArbFrame.restart_none {s t : State} (h : ArbFrame s t) : t.restart = none ↔ s.restart = none := by
  rw [← Option.isNone_iff_eq_none, ← Option.isNone_iff_eq_none, ← Option.not_isSome, ← Option.not_isSome, h.restart]

/-! ### What becomes of an element whose own state is not worked on -/

/-- `t` has of element `e` what `s` has: its record and its moves; or its pending move has started. -/
inductive State.Spares (e : ElemNo) (s t : State) : Prop
  | same (elem : t.elem e = s.elem e) (control : t.control e = s.control e)
      (entries : t.entriesOf e = s.entriesOf e) (services : t.servicesOf e = s.servicesOf e)
      (pulses : ∀ c, (t.channel c).pulses e = (s.channel c).pulses e)
  | started (m : MoveEntry) (x : Element) (v : Service) (mem : m ∈ s.entriesOf e) (before : s.elem e = some x)
      (running : s.nodeState = .running) (unheld : laneHeld s.laneHold m.lane = false)
      (elem : t.elem e = some (x.startMove s.config m.target))
      (control : t.control e = if x.cls = .solidState then m.target else s.control e)
      (entries : t.entriesOf e = []) (services : t.servicesOf e = s.servicesOf e ++ [v])
      (target : v.target = m.target) (lane : v.lane = m.lane)

theorem State.Spares.refl (e : ElemNo) (s : State) : s.Spares e s := .same rfl rfl rfl rfl fun _ => rfl

theorem State.Spares.trans {e : ElemNo} {s t u : State} (hframe : ArbFrame s t) (h : State.Spares e s t)
    (k : State.Spares e t u) : State.Spares e s u := by
  cases h with
  | same elem control entries services pulses =>
    cases k with
    | same elem' control' entries' services' pulses' =>
      exact .same (elem'.trans elem) (control'.trans control) (entries'.trans entries) (services'.trans services)
        fun c => (pulses' c).trans (pulses c)
    | started m x v mem before running unheld elem' control' entries' services' target lane =>
      exact .started m x v (entries ▸ mem) (elem ▸ before) (hframe.nodeState ▸ running) (hframe.laneHold ▸ unheld)
        (hframe.config ▸ elem') (control ▸ control') entries' (services ▸ services') target lane
  | started m x v mem before running unheld elem control entries services target lane =>
    cases k with
    | same elem' control' entries' services' =>
      exact .started m x v mem before running unheld (elem'.trans elem) (control'.trans control)
        (entries'.trans entries) (services'.trans services) target lane
    | started m' _ _ mem' => rw [entries] at mem'; cases mem'

/-- Fields of the arbiter that are equal leave every element as it was. -/
theorem State.Spares.of_eq {s t : State} (e : ElemNo) (elems : t.elems = s.elems) (controls : t.controls = s.controls)
    (moveQueue : t.moveQueue = s.moveQueue) (services : t.services = s.services) (channels : t.channels = s.channels) :
    State.Spares e s t :=
  .same (State.elem_congr elems e) (by rw [State.control, controls]; rfl) (by rw [State.entriesOf, moveQueue]; rfl)
    (by rw [State.servicesOf, services]; rfl) fun c => by rw [State.channel_congr channels c]

/-- Where the element's move stands is as before, or its pending move is in service. -/
theorem State.Spares.place {e : ElemNo} {s t : State} (h : State.Spares e s t) {p : Prop} (hs : s.Place p e) :
    t.Place p e := by
  cases h with
  | same elem control entries services pulses =>
    cases hs with
    | idle bare moving held =>
      exact .idle ⟨entries.trans bare.entries, services.trans bare.services, fun c => (pulses c).trans (bare.pulses c)⟩
        (elem ▸ moving) (elem ▸ held)
    | pending m x entries' services' pulses' elem' mayPend marked =>
      exact .pending m x (entries.trans entries') (services.trans services') (fun c => (pulses c).trans (pulses' c))
        (elem.trans elem') mayPend marked
    | serving v x entries' services' elem' mayMove =>
      exact .serving v x (entries.trans entries') (services.trans services') (elem.trans elem') mayMove
  | started m x v mem before running unheld elem control entries services =>
    obtain ⟨_, y, -, hnone, hy, hpend, -⟩ := hs.of_entry (State.hasEntry_iff.2 ⟨m, State.mem_entriesOf.1 mem⟩)
    cases before.symm.trans hy
    exact .serving v _ entries (by rw [services, hnone]; rfl) elem (hpend.startMove _ _)

theorem State.Spares.stateSafe {e : ElemNo} {s t : State} (h : State.Spares e s t)
    (hs : ∀ x, s.elem e = some x → x.stateSafe) : ∀ x, t.elem e = some x → x.stateSafe := by
  cases h with
  | same elem => exact elem ▸ hs
  | started m x v mem before running unheld elem =>
    intro y hy
    cases elem.symm.trans hy
    exact (hs x before).startMove _ _

/-- The laws of an element hold on. -/
theorem State.Spares.lawAt_of {e : ElemNo} {s t : State} (h : State.Spares e s t) (hnode : t.nodeState = s.nodeState)
    (hrestart : t.restart = none → s.restart = none) (hs : s.lawAt e) : t.lawAt e := by
  refine ⟨(h.place hs.place).mono hrestart, h.stateSafe hs.state, ?_, ?_⟩
  all_goals rw [hnode]
  · cases h with
    | same elem => rw [elem]; exact hs.seed
    | started _ _ _ _ _ running => exact fun hn => nomatch running.symm.trans hn
  · cases h with
    | same elem => rw [elem]; exact hs.start
    | started _ _ _ _ _ running => exact fun hn => nomatch running.symm.trans hn

theorem State.Spares.lawAt {e : ElemNo} {s t : State} (h : State.Spares e s t) (hframe : ArbFrame s t)
    (hs : s.lawAt e) : t.lawAt e := h.lawAt_of hframe.nodeState hframe.restart_none.1 hs

/-! ### One start -/

/-- The start of a pending move in a RUNNING node, of a lane that is not held, on an IDLE channel where it needs
one (R41, R47, R49). -/
structure StartOne (s t : State) (m : MoveEntry) (ch : Option ChannelNo) : Prop where
  running : s.nodeState = .running
  mem     : m ∈ s.moveQueue
  unheld  : laneHeld s.laneHold m.lane = false
  needs   : ch.isSome = m.needsChannel
  idle    : ∀ c, ch = some c → s.channel c = .idle
  inUse   : (s.elem m.elem).isSome = true
  eq      : t = s.startMove m ch

/-- The service record of a move's start (R25). -/
def State.serviceFor (s : State) (m : MoveEntry) (ch : Option ChannelNo) (x : Element) : Service :=
  ⟨m.elem, m.target, m.lane, x.pulseCount m.target, moveDuration s.config x (x.pulseCount m.target), ch,
    moveDuration s.config x (x.pulseCount m.target)⟩

section
variable {s : State} {m : MoveEntry} {x : Element} (hx : s.elem m.elem = some x) (ch : Option ChannelNo)
include hx

theorem State.startMove_elem (e : ElemNo) :
    (s.startMove m ch).elem e = if e = m.elem then some (x.startMove s.config m.target) else s.elem e := by
  rw [← State.elem_setElem]
  cases ch with
  | none => rw [State.startMove_none hx]; rfl
  | some c => rw [State.startMove_some hx]; rfl

theorem State.startMove_control (e : ElemNo) :
    (s.startMove m ch).control e = if e = m.elem ∧ x.cls = .solidState then m.target else s.control e := by
  have hset : (if x.cls = .solidState then s.controls.set m.elem m.target else s.controls)[e] =
      if e = m.elem ∧ x.cls = .solidState then m.target else s.controls[e] := by
    by_cases hcls : x.cls = .solidState
    · by_cases he : e = m.elem
      · subst he; simp [hcls]
      · have : m.elem.val ≠ e.val := fun h => he (Fin.ext h.symm)
        simp [hcls, he, this]
    · simp [hcls]
  cases ch with
  | none => rw [State.startMove_none hx]; exact hset
  | some c => rw [State.startMove_some hx]; exact hset

theorem State.startMove_moveQueue :
    (s.startMove m ch).moveQueue = s.moveQueue.filter (fun m' => m'.elem != m.elem) := by
  cases ch with
  | none => rw [State.startMove_none hx]
  | some c => rw [State.startMove_some hx]

theorem State.startMove_channel (c : ChannelNo) :
    (s.startMove m ch).channel c = if ch = some c then .pulsing m.elem m.target m.lane (x.pulseCount m.target)
      (firstPhase (x.pulseCount m.target)) (pulsingUnits s.config x.cls (x.pulseCount m.target))
      else s.channel c := by
  cases ch with
  | none => rw [State.startMove_none hx]; rfl
  | some c' =>
    rw [State.startMove_some hx]
    by_cases hc : c = c'
    · subst hc
      rw [if_pos rfl]
      simp [State.channel]
    · rw [if_neg fun h => hc (Option.some.inj h).symm]
      have : c'.val ≠ c.val := fun h => hc (Fin.ext h.symm)
      simp [State.channel, this]

end

theorem StartOne.touches {s t : State} {m : MoveEntry} {ch : Option ChannelNo} (h : StartOne s t m ch) :
    ArbTouched s t := h.eq ▸ s.startMove_touches m ch

theorem State.entriesOf_filter_ne (s : State) (e e' : ElemNo) :
    (s.moveQueue.filter (fun m => m.elem != e')).filter (fun m => m.elem == e) =
      if e = e' then [] else s.entriesOf e := by
  rw [List.filter_filter]
  split
  next h => subst h; simp
  next h =>
    refine List.filter_congr fun m _ => ?_
    by_cases hm : m.elem = e
    · simp [hm, h]
    · simp [hm]

theorem StartOne.spares {s t : State} {m : MoveEntry} {ch : Option ChannelNo} (h : StartOne s t m ch) (e : ElemNo) :
    State.Spares e s t := by
  obtain ⟨running, mem, unheld, needs, idle, inUse, rfl⟩ := h
  obtain ⟨x, hx⟩ := Option.isSome_iff_exists.1 inUse
  have hqueue : (s.startMove m ch).entriesOf e = if e = m.elem then [] else s.entriesOf e := by
    rw [State.entriesOf, State.startMove_moveQueue hx, State.entriesOf_filter_ne]
  have hserve : (s.startMove m ch).servicesOf e =
      s.servicesOf e ++ (if e = m.elem then [s.serviceFor m ch x] else []) := by
    rw [State.servicesOf, State.startMove_services hx, List.filter_append]
    congr 1
    split
    next he => subst he; simp [State.serviceFor]
    next he => simpa [State.serviceFor] using fun h => he h.symm
  by_cases he : e = m.elem
  · subst he
    simp only [if_true] at hqueue hserve
    refine .started m x _ (State.mem_entriesOf.2 ⟨mem, rfl⟩) hx running unheld ?_ ?_ hqueue hserve rfl rfl
    · rw [State.startMove_elem hx, if_pos rfl]
    · simp [State.startMove_control hx]
  · rw [if_neg he] at hqueue hserve
    refine .same ?_ ?_ hqueue (hserve.trans (List.append_nil _)) fun c => ?_
    · rw [State.startMove_elem hx, if_neg he]
    · rw [State.startMove_control hx, if_neg fun h => he h.1]
    · rw [State.startMove_channel hx]
      split
      next hc => simp [idle c hc, Channel.pulses, Ne.symm he]
      next => rfl

/-! ### Starts one after another -/

/-- `t` is `s` after starts of pending moves, one after another. -/
inductive Starts : State → State → Prop
  | refl (s : State) : Starts s s
  | step {s t u : State} {m : MoveEntry} {ch : Option ChannelNo} (h : StartOne s t m ch) (k : Starts t u) : Starts s u

theorem Starts.one {s t : State} {m : MoveEntry} {ch : Option ChannelNo} (h : StartOne s t m ch) : Starts s t :=
  .step h (.refl t)

theorem Starts.trans {s t u : State} (h : Starts s t) (k : Starts t u) : Starts s u := by
  induction h with
  | refl => exact k
  | step h _ ih => exact .step h (ih k)

theorem Starts.touches {s t : State} (h : Starts s t) : ArbTouched s t := by
  induction h with
  | refl => exact .refl _
  | step h _ ih => exact h.touches.trans ih

theorem Starts.frame {s t : State} (h : Starts s t) : ArbFrame s t := h.touches.frame

theorem Starts.spares {s t : State} (h : Starts s t) (e : ElemNo) : State.Spares e s t := by
  induction h with
  | refl => exact .refl e _
  | step h _ ih => exact (h.spares e).trans h.touches.frame ih

theorem Starts.lawful {s t : State} (h : Starts s t) (hs : s.lawful) : t.lawful :=
  fun e => (h.spares e).lawAt h.frame (hs e)

/-- The moves that are left keep their places in the arrival order. -/
theorem Starts.moveQueue {s t : State} (h : Starts s t) :
    t.moveQueue = s.moveQueue.filter (fun m => t.hasEntry m.elem) := by
  have hself : ∀ u : State, u.moveQueue = u.moveQueue.filter (fun m => u.hasEntry m.elem) := fun u =>
    (List.filter_eq_self.2 fun m hm => State.hasEntry_iff.2 ⟨m, hm, rfl⟩).symm
  induction h with
  | refl => exact hself _
  | @step s t u m ch h k ih =>
    obtain ⟨x, hx⟩ := Option.isSome_iff_exists.1 h.inUse
    have hq : t.moveQueue = s.moveQueue.filter (fun m' => m'.elem != m.elem) := by
      rw [h.eq, State.startMove_moveQueue hx]
    have hgone : u.hasEntry m.elem = false := by
      rw [← State.entriesOf_eq_nil, State.entriesOf, ih, hq]
      simp only [List.filter_filter, List.filter_eq_nil_iff]
      intro m' _
      by_cases hm : m'.elem = m.elem <;> simp [hm]
    rw [ih, hq, List.filter_filter]
    refine List.filter_congr fun m' _ => ?_
    by_cases hm : m'.elem = m.elem
    · simp [hm, hgone]
    · simp [hm]

/-- The moves in service stay, with what is started behind them. -/
theorem Starts.services {s t : State} (h : Starts s t) : ∃ vs, t.services = s.services ++ vs := by
  induction h with
  | refl => exact ⟨[], by simp⟩
  | step h _ ih =>
    obtain ⟨x, hx⟩ := Option.isSome_iff_exists.1 h.inUse
    obtain ⟨vs, hvs⟩ := ih
    rw [h.eq, State.startMove_services hx, List.append_assoc] at hvs
    exact ⟨_, hvs⟩

/-- A channel that is busy stays as it is. -/
theorem Starts.channel {s t : State} (h : Starts s t) {c : ChannelNo} (hc : s.channel c ≠ .idle) :
    t.channel c = s.channel c := by
  induction h with
  | refl => rfl
  | @step s t u m ch h _ ih =>
    obtain ⟨x, hx⟩ := Option.isSome_iff_exists.1 h.inUse
    have hsame : t.channel c = s.channel c := by
      rw [h.eq, State.startMove_channel hx, if_neg fun hch => hc (h.idle c hch)]
    rw [ih (hsame ▸ hc), hsame]

theorem Starts.moveQueue_sublist {s t : State} (h : Starts s t) : t.moveQueue.Sublist s.moveQueue :=
  h.moveQueue ▸ List.filter_sublist

/-! ### The arbiter's own starts -/

theorem State.grantOne_eq_of_not {s : State} (h : ¬s.grantable) : s.grantOne = s := by
  unfold State.grantOne
  split
  next hn =>
    split
    next c m hc hm =>
      obtain ⟨hmem, hneeds, hheld⟩ := State.grantChoice_mem hm
      exact absurd ⟨hn.1, hn.2, ⟨c, State.channel_of_idleChannel hc⟩, m, hmem, hneeds, hheld⟩ h
    next => rfl
  next => rfl

/-- A grant starts the move that the arbiter chooses (R41, R42). -/
theorem State.grantOne_startOne {s : State} (h : s.grantable) : ∃ c m, s.idleChannel = some c ∧
    s.grantChoice = some m ∧ s.grantOne = s.startMove m (some c) ∧
      ((s.elem m.elem).isSome = true → StartOne s s.grantOne m (some c)) := by
  obtain ⟨hn, hk, hc, m, hm, hneeds, hheld⟩ := h
  obtain ⟨c, hc⟩ := State.idleChannel_isSome hc
  obtain ⟨m, hm⟩ := State.grantChoice_isSome hm hneeds hheld
  obtain ⟨hmem, hneeds, hheld⟩ := State.grantChoice_mem hm
  have heq := State.grantOne_of hn hk hc hm
  exact ⟨c, m, hc, hm, heq, fun hx => ⟨hn, hmem, hheld, hneeds.symm,
    fun c' h => by cases h; exact State.channel_of_idleChannel hc, hx, heq⟩⟩

theorem State.startMove_of_none {s : State} {m : MoveEntry} (h : s.elem m.elem = none) (ch : Option ChannelNo) :
    s.startMove m ch = s := by simp [State.startMove, h]

theorem State.grantOne_starts (s : State) : Starts s s.grantOne := by
  by_cases h : s.grantable
  · obtain ⟨c, m, -, -, heq, hone⟩ := State.grantOne_startOne h
    cases hx : s.elem m.elem with
    | some x => exact .one (hone (by rw [hx]; rfl))
    | none => rw [heq, State.startMove_of_none hx]; exact .refl s
  · rw [State.grantOne_eq_of_not h]; exact .refl s

theorem State.grants_starts (s : State) : Starts s s.grants :=
  ((s.grantOne_starts.trans (State.grantOne_starts _)).trans (State.grantOne_starts _)).trans (State.grantOne_starts _)

/-- A move joins the back of the arrival order (R38). -/
def State.pushMove (s : State) (m : MoveEntry) : State := { s with moveQueue := s.moveQueue ++ [m] }

/-- A queued move joins the arrival order, and what can start then starts (R38, R41, R47). -/
theorem State.queueMove_starts {s : State} {e : ElemNo} {x : Element} (hx : s.elem e = some x) (t : Throw) (k : Lane) :
    Starts (s.pushMove ⟨e, t, k, needsChannel x.cls t⟩) (s.queueMove e t k) := by
  simp only [State.queueMove, hx]
  split
  next => exact State.grants_starts _
  next hneeds =>
    split
    next h =>
      refine .one (m := ⟨e, t, k, needsChannel x.cls t⟩) (ch := none) ⟨h.1, by simp [State.pushMove], h.2, ?_, nofun, ?_, rfl⟩
      · simpa using hneeds
      · change (s.elem e).isSome = true
        rw [hx]; rfl
    next => exact .refl _

theorem State.pushMove_entriesOf (s : State) (m : MoveEntry) (e : ElemNo) :
    (s.pushMove m).entriesOf e = s.entriesOf e ++ (if m.elem = e then [m] else []) := by
  rw [State.entriesOf, State.pushMove, List.filter_append]
  congr 1
  split
  next h => simp [h]
  next h => simpa using h

/-- To queue a move for one element leaves every other one as it was, or starts its pending move. -/
theorem State.queueMove_spares (s : State) {e f : ElemNo} (hf : f ≠ e) (t : Throw) (k : Lane) :
    State.Spares f s (s.queueMove e t k) := by
  cases hx : s.elem e with
  | none => simp only [State.queueMove, hx]; exact .refl f s
  | some x =>
    refine .trans (t := s.pushMove ⟨e, t, k, needsChannel x.cls t⟩) ⟨rfl, rfl, rfl, rfl, rfl⟩ ?_
      ((State.queueMove_starts hx t k).spares f)
    refine .same rfl rfl ?_ rfl fun _ => rfl
    rw [State.pushMove_entriesOf, if_neg fun h => hf h.symm, List.append_nil]

/-- The elements of the pending moves are in use. -/
def State.known (s : State) : Prop := ∀ m ∈ s.moveQueue, (s.elem m.elem).isSome = true

theorem State.lawful.known {s : State} (h : s.lawful) : s.known := fun m hm => by
  obtain ⟨_, x, -, -, hx, -⟩ := (h m.elem).place.of_entry (State.hasEntry_iff.2 ⟨m, hm, rfl⟩)
  rw [hx]; rfl

theorem State.startMove_elem_isSome (s : State) (m : MoveEntry) (ch : Option ChannelNo) (e : ElemNo) :
    ((s.startMove m ch).elem e).isSome = (s.elem e).isSome := by
  cases hx : s.elem m.elem with
  | none => rw [State.startMove_of_none hx]
  | some x =>
    rw [State.startMove_elem hx]
    split
    next he => rw [he, hx]; rfl
    next => rfl

theorem Starts.elem_isSome {s t : State} (h : Starts s t) (e : ElemNo) : (t.elem e).isSome = (s.elem e).isSome := by
  induction h with
  | refl => rfl
  | step h _ ih => exact ih.trans (by rw [h.eq, State.startMove_elem_isSome])

theorem Starts.known {s t : State} (h : Starts s t) (hs : s.known) : t.known := fun m hm => by
  rw [h.elem_isSome]
  exact hs m (h.moveQueue_sublist.subset hm)

/-- Nothing that starts makes a grant possible. -/
theorem Starts.not_grantable {s t : State} (h : Starts s t) (hs : ¬s.grantable) : ¬t.grantable := by
  rintro ⟨hn, hk, ⟨c, hc⟩, m, hm, hneeds, hheld⟩
  refine hs ⟨h.frame.nodeState ▸ hn, h.frame.coilOk ▸ hk, ⟨c, ?_⟩, m, h.moveQueue_sublist.subset hm, hneeds,
    h.frame.laneHold ▸ hheld⟩
  by_contra hbusy
  exact hbusy (h.channel hbusy ▸ hc)

theorem Starts.not_startable {s t : State} (h : Starts s t) (hs : ¬s.startable) : ¬t.startable := by
  rintro ⟨hn, m, hm, hneeds, hheld⟩
  exact hs ⟨h.frame.nodeState ▸ hn, m, h.moveQueue_sublist.subset hm, hneeds, h.frame.laneHold ▸ hheld⟩

/-! ### After the grants of one instant no further one can be made (R41) -/

/-- How many channels are IDLE. -/
def State.idleCount (s : State) : Nat := (allChannels.filter (fun c => s.channel c == .idle)).length

theorem State.idleCount_le (s : State) : s.idleCount ≤ 4 := List.length_filter_le _ allChannels

/-- Each grant takes a channel. -/
theorem State.idleCount_grantOne {s : State} (hs : s.known) (h : s.grantable) :
    s.grantOne.idleCount < s.idleCount := by
  obtain ⟨c, m, hc, hm, heq, -⟩ := State.grantOne_startOne h
  obtain ⟨x, hx⟩ := Option.isSome_iff_exists.1 (hs m (State.grantChoice_mem hm).1)
  have hidle := State.channel_of_idleChannel hc
  have hsplit : allChannels.filter (fun d => s.grantOne.channel d == .idle) =
      (allChannels.filter (fun d => s.channel d == .idle)).filter (fun d => d != c) := by
    rw [List.filter_filter]
    refine List.filter_congr fun d _ => ?_
    rw [heq, State.startMove_channel hx]
    by_cases hd : c = d
    · subst hd; simp
    · simp [hd, Ne.symm hd]
  rw [State.idleCount, hsplit, State.idleCount]
  refine lt_of_le_of_ne (List.length_filter_le _ _) fun heq => ?_
  have hall := List.length_filter_eq_length_iff.1 heq c
    (List.mem_filter.2 ⟨mem_allChannels c, by simp [hidle]⟩)
  simp at hall

theorem State.grants_not_grantable {s : State} (hs : s.known) : ¬s.grants.grantable := by
  intro h4
  have back : ∀ {u : State}, u.grantOne.grantable → u.grantable := fun {u} h => by
    by_contra hu
    exact (u.grantOne_starts.not_grantable hu) h
  have k1 := s.grantOne_starts.known hs
  have k2 := s.grantOne.grantOne_starts.known k1
  have k3 := s.grantOne.grantOne.grantOne_starts.known k2
  have k4 := s.grantOne.grantOne.grantOne.grantOne_starts.known k3
  have h3 := back h4
  have h2 := back h3
  have h1 := back h2
  have h0 := back h1
  have i0 := State.idleCount_grantOne hs h0
  have i1 := State.idleCount_grantOne k1 h1
  have i2 := State.idleCount_grantOne k2 h2
  have i3 := State.idleCount_grantOne k3 h3
  have i4 := State.idleCount_grantOne k4 h4
  have := s.idleCount_le
  omega

/-! ### Starting what needs no channel (R46, R47) -/

/-- Starts of entries that stand in the arrival order, each of another element. -/
theorem foldl_startMove_starts {l : List MoveEntry} (hne : (l.map (·.elem)).Nodup) : ∀ {s : State},
    s.nodeState = .running → (∀ m ∈ l, m ∈ s.moveQueue ∧ m.needsChannel = false ∧ laneHeld s.laneHold m.lane = false) →
    Starts s (l.foldl (fun s m => s.startMove m none) s) := by
  induction l with
  | nil => intro s _ _; exact .refl s
  | cons m l ih =>
    intro s hn hl
    obtain ⟨hnew, hne⟩ := List.nodup_cons.1 hne
    obtain ⟨hm, hneeds, hheld⟩ := hl m List.mem_cons_self
    have hrest : ∀ u : State, u.nodeState = s.nodeState → u.laneHold = s.laneHold →
        (∀ m' ∈ l, m' ∈ s.moveQueue → m' ∈ u.moveQueue) → Starts u (l.foldl (fun s m => s.startMove m none) u) :=
      fun u hstate hlanes hq => ih hne (hstate.trans hn) fun m' hm' => by
        obtain ⟨hmem, hneeds, hheld⟩ := hl m' (List.mem_cons_of_mem _ hm')
        exact ⟨hq m' hm' hmem, hneeds, hlanes ▸ hheld⟩
    rw [List.foldl_cons]
    cases hx : s.elem m.elem with
    | none => rw [State.startMove_of_none hx]; exact hrest s rfl rfl fun _ _ h => h
    | some x =>
      have hone : StartOne s (s.startMove m none) m none :=
        ⟨hn, hm, hheld, hneeds.symm, nofun, by rw [hx]; rfl, rfl⟩
      refine .step hone (hrest _ hone.touches.nodeState hone.touches.laneHold fun m' hm' hmem => ?_)
      rw [State.startMove_moveQueue hx]
      refine List.mem_filter.2 ⟨hmem, ?_⟩
      simp only [bne_iff_ne, ne_eq]
      exact fun h => hnew (List.mem_map.2 ⟨m', hm', h⟩)

theorem State.startUnheld_starts {s : State} (hrunning : s.nodeState = .running)
    (hone : (s.moveQueue.map (·.elem)).Nodup) : Starts s s.startUnheld := by
  refine foldl_startMove_starts (hone.sublist (List.filter_sublist.map _)) hrunning fun m hm => ?_
  obtain ⟨hmem, hp⟩ := List.mem_filter.1 hm
  simp only [Bool.and_eq_true, Bool.not_eq_true'] at hp
  exact ⟨hmem, hp⟩

/-- What is started leaves the arrival order, and nothing joins it. -/
theorem foldl_startMove_moveQueue {s : State} {l : List MoveEntry} (hs : s.known)
    (hl : ∀ m ∈ l, (s.elem m.elem).isSome = true) :
    (l.foldl (fun s m => s.startMove m none) s).moveQueue =
      s.moveQueue.filter (fun m => !l.any (fun m' => m'.elem == m.elem)) := by
  induction l generalizing s with
  | nil => simp
  | cons m l ih =>
    obtain ⟨x, hx⟩ := Option.isSome_iff_exists.1 (hl m List.mem_cons_self)
    have hsome := s.startMove_elem_isSome m none
    have hq := State.startMove_moveQueue hx none
    rw [List.foldl_cons, ih (fun m' hm' => ?_) fun m' hm' => (hsome _).trans (hl m' (List.mem_cons_of_mem _ hm')), hq,
      List.filter_filter]
    · refine List.filter_congr fun m' _ => ?_
      rw [List.any_cons, Bool.not_or, Bool.and_comm, bne_comm]
      rfl
    · rw [hsome]
      exact hs m' (List.mem_of_mem_filter (hq ▸ hm'))

theorem foldl_startMove_elem_isSome (l : List MoveEntry) (e : ElemNo) : ∀ s : State,
    ((l.foldl (fun s m => s.startMove m none) s).elem e).isSome = (s.elem e).isSome := by
  induction l with
  | nil => exact fun _ => rfl
  | cons m l ih => exact fun s => (ih _).trans (s.startMove_elem_isSome m none e)

theorem State.startUnheld_known {s : State} (hs : s.known) : s.startUnheld.known := by
  intro m hm
  unfold State.startUnheld at hm ⊢
  rw [foldl_startMove_moveQueue hs fun m hm => hs m (List.mem_of_mem_filter hm)] at hm
  rw [foldl_startMove_elem_isSome]
  exact hs m (List.mem_of_mem_filter hm)

theorem State.startUnheld_not_startable {s : State} (hs : s.known) : ¬s.startUnheld.startable := by
  rintro ⟨-, m, hm, hneeds, hheld⟩
  rw [s.startUnheld_touches.laneHold] at hheld
  unfold State.startUnheld at hm
  rw [foldl_startMove_moveQueue hs fun m hm => hs m (List.mem_of_mem_filter hm)] at hm
  obtain ⟨hmem, hgone⟩ := List.mem_filter.1 hm
  simp only [Bool.not_eq_true', List.any_eq_false, beq_iff_eq] at hgone
  exact hgone m (List.mem_filter.2 ⟨hmem, by simp [hneeds, hheld]⟩) rfl

end Sys2Proof.Machine
end

section
/-!
PROOFS. What an operation keeps of the element records, of the control inputs, of the arbiter and of the exposed
elements: the relations that the operations and the commands are shown to keep, and the rules for the operations that
work on one element.
-/

namespace Sys2Proof.Machine

/-! ### One record -/

/-- `y` is `x` later: the image's figures of a record stay, its wear does not fall, and its law holds on (R5, R21). -/
structure Element.Evolves (cfg : ImageConfig) (x y : Element) : Prop where
  cls      : y.cls = x.cls
  throws   : y.throws = x.throws
  cascaded : y.cascaded = x.cascaded
  park     : y.park = x.park
  baseWear : y.baseWear = x.baseWear
  wear     : x.wear ≤ Config.wearMax → x.wear ≤ y.wear ∧ y.wear ≤ Config.wearMax
  record   : x.recordSafe cfg → y.recordSafe cfg

theorem Element.Evolves.refl (cfg : ImageConfig) (x : Element) : x.Evolves cfg x :=
  ⟨rfl, rfl, rfl, rfl, rfl, fun h => ⟨Nat.le_refl _, h⟩, id⟩

theorem Element.Evolves.trans {cfg : ImageConfig} {x y z : Element} (h : x.Evolves cfg y) (k : y.Evolves cfg z) :
    x.Evolves cfg z :=
  ⟨k.cls.trans h.cls, k.throws.trans h.throws, k.cascaded.trans h.cascaded, k.park.trans h.park,
    k.baseWear.trans h.baseWear, fun hx => ⟨(h.wear hx).1.trans (k.wear (h.wear hx).2).1, (k.wear (h.wear hx).2).2⟩,
    k.record ∘ h.record⟩

/-- Fields that the law of a record does not speak of change, or the mismatch run ends. -/
theorem Element.Evolves.of_eq_run {cfg : ImageConfig} {x y : Element} (h : (y.cls, y.throws, y.cascaded, y.park,
    y.baseWear, y.wear, y.wearWarning, y.hold, y.half) = (x.cls, x.throws, x.cascaded, x.park, x.baseWear, x.wear,
    x.wearWarning, x.hold, x.half)) (run : y.mismatchRun = x.mismatchRun ∨ y.mismatchRun ≤ 1) : x.Evolves cfg y := by
  simp only [Prod.mk.injEq] at h
  obtain ⟨cls, throws, cascaded, park, baseWear, wear, wearWarning, hold, half⟩ := h
  refine ⟨cls, throws, cascaded, park, baseWear, fun h => ⟨wear.ge, wear ▸ h⟩, fun h => ?_⟩
  refine ⟨by rw [baseWear, wear]; exact h.base, by rw [wear]; exact h.bound,
    by rw [wearWarning, cls, wear]; exact h.warning, by rw [cls, hold]; exact h.hold,
    by rw [half, cascaded]; exact h.half, ?_, h.figures⟩
  rcases run with run | run
  · rw [run]; exact h.run
  · exact run

theorem Element.Evolves.of_eq {cfg : ImageConfig} {x y : Element} (h : (y.cls, y.throws, y.cascaded, y.park,
    y.baseWear, y.wear, y.wearWarning, y.hold, y.half, y.mismatchRun) = (x.cls, x.throws, x.cascaded, x.park,
    x.baseWear, x.wear, x.wearWarning, x.hold, x.half, x.mismatchRun)) : x.Evolves cfg y := by
  simp only [Prod.mk.injEq] at h
  obtain ⟨cls, throws, cascaded, park, baseWear, wear, wearWarning, hold, half, run⟩ := h
  exact .of_eq_run (by simp only [cls, throws, cascaded, park, baseWear, wear, wearWarning, hold, half]) (.inl run)

theorem warningOf_iff (cfg : ImageConfig) (c : ElemClass) (w : Nat) : warningOf cfg c w = true ↔
    (c = .latching ∧ cfg.wearL ≠ 0 ∧ 65536 * cfg.wearL ≤ w) ∨
      (c = .failsafe ∧ cfg.wearF ≠ 0 ∧ 65536 * cfg.wearF ≤ w) := by
  unfold warningOf Config.wearStep
  cases c <;> simp

/-- An actuation (R21, R22). -/
theorem Element.addWear_evolves (cfg : ImageConfig) (k : Nat) (x : Element) : x.Evolves cfg (x.addWear cfg k) := by
  refine ⟨rfl, rfl, rfl, rfl, rfl, fun h => ⟨Nat.le_min.2 ⟨Nat.le_add_right _ _, h⟩, Nat.min_le_right _ _⟩, fun h => ?_⟩
  exact ⟨Nat.le_min.2 ⟨h.base.trans (Nat.le_add_right _ _), h.base.trans h.bound⟩, Nat.min_le_right _ _,
    warningOf_iff _ _ _, h.hold, h.half, h.run, h.figures⟩

/-- The hold of an F element changes, or a hold ends (R2). -/
theorem Element.setHold_evolves {x : Element} (cfg : ImageConfig) {t : Option Throw} (h : x.cls = .failsafe ∨ t = none) :
    x.Evolves cfg { x with hold := t } := by
  refine ⟨rfl, rfl, rfl, rfl, rfl, fun hw => ⟨Nat.le_refl _, hw⟩, fun hs => ?_⟩
  exact ⟨hs.base, hs.bound, hs.warning, fun hc => h.resolve_left hc, hs.half, hs.run, hs.figures⟩

/-- A half memory changes where there is one (R3). -/
theorem Element.setHalf_evolves {x : Element} (cfg : ImageConfig) {h : Half} (hh : h = x.half ∨ x.cascaded = true ∧ h ≠ .absent) :
    x.Evolves cfg { x with half := h } := by
  refine ⟨rfl, rfl, rfl, rfl, rfl, fun hw => ⟨Nat.le_refl _, hw⟩, fun hs => ?_⟩
  refine ⟨hs.base, hs.bound, hs.warning, hs.hold, ?_, hs.run, hs.figures⟩
  rcases hh with rfl | ⟨hc, hne⟩
  · exact hs.half
  · simp [hc, hne]

theorem halfOf_ne_absent (n : Nat) (t : Throw) : halfOf n t ≠ .absent := by
  unfold halfOf; split <;> simp

theorem Element.halfFrom_cases (x : Element) (v : Sensed) :
    x.halfFrom v = x.half ∨ x.cascaded = true ∧ x.halfFrom v ≠ .absent := by
  unfold Element.halfFrom
  split
  next hc =>
    refine .inr ⟨hc, ?_⟩
    split
    · exact halfOf_ne_absent _ _
    · nofun
  next => exact .inl rfl

theorem Element.halfUnknown_cases (x : Element) :
    x.halfUnknown = x.half ∨ x.cascaded = true ∧ x.halfUnknown ≠ .absent := by
  unfold Element.halfUnknown
  split
  next hc => exact .inr ⟨hc, nofun⟩
  next => exact .inl rfl

theorem Element.startMove_evolves (cfg : ImageConfig) (t : Throw) (x : Element) : x.Evolves cfg (x.startMove cfg t) := by
  have hstate : x.Evolves cfg { x with
      commanded := some t, state := if x.state = .waiting then .moving else x.state } := .of_eq rfl
  unfold Element.startMove
  dsimp only
  split
  · exact hstate
  · split
    · exact (hstate.trans (Element.setHold_evolves cfg (.inr rfl))).trans (Element.addWear_evolves cfg 1 _)
    · exact hstate
  · exact hstate

/-! ### The state -/

/-- `t` is `s` later: the records evolve, the control inputs of S elements only change, and the node does not return
to STARTING. -/
structure Evolves (s t : State) : Prop where
  config   : t.config = s.config
  elems    : ∀ e, Option.Rel (Element.Evolves s.config) (s.elem e) (t.elem e)
  controls : ∀ e, t.control e ≠ s.control e → t.nodeState ≠ .starting ∧ ∃ x, s.elem e = some x ∧ x.cls = .solidState
  starting : t.nodeState = .starting → s.nodeState = .starting

theorem Option.Rel.evolves_refl (cfg : ImageConfig) (o : Option Element) : Option.Rel (Element.Evolves cfg) o o := by
  cases o with
  | none => exact .none
  | some x => exact .some (.refl cfg x)

theorem Evolves.refl (s : State) : Evolves s s :=
  ⟨rfl, fun _ => Option.Rel.evolves_refl _ _, fun _ h => absurd rfl h, id⟩

theorem Evolves.trans {s t u : State} (h : Evolves s t) (k : Evolves t u) : Evolves s u := by
  refine ⟨k.config.trans h.config, fun e => ?_, fun e he => ?_, h.starting ∘ k.starting⟩
  · have h1 := h.elems e
    have h2 := k.elems e
    rw [h.config] at h2
    revert h1 h2
    cases s.elem e <;> cases t.elem e <;> cases u.elem e <;> rintro (_ | _) (_ | _)
    · exact .none
    · exact .some (Element.Evolves.trans ‹_› ‹_›)
  · by_cases ht : t.control e = s.control e
    · obtain ⟨hn, y, hy, hcls⟩ := k.controls e (ht ▸ he)
      have h1 := h.elems e
      rw [hy] at h1
      revert h1
      cases hx : s.elem e with
      | none => nofun
      | some x => rintro ⟨h1⟩; exact ⟨hn, x, rfl, h1.cls.symm.trans hcls⟩
    · obtain ⟨hn, hx⟩ := h.controls e ht
      exact ⟨fun hu => hn (k.starting hu), hx⟩

/-- Nothing can be granted or started (R41, R47). -/
def State.quiet (s : State) : Prop := ¬s.grantable ∧ ¬s.startable

/-- `t` leaves nothing to be started where `s` does, and its pending moves are of elements in use where those of `s`
are. -/
structure Quiets (s t : State) : Prop where
  known : s.known → t.known
  quiet : s.known → s.quiet → t.quiet

theorem Quiets.refl (s : State) : Quiets s s := ⟨id, fun _ => id⟩

theorem Quiets.trans {s t u : State} (h : Quiets s t) (k : Quiets t u) : Quiets s u :=
  ⟨k.known ∘ h.known, fun hk hs => k.quiet (h.known hk) (h.quiet hk hs)⟩

/-- An exposed element stays so, with its commanded throw, hold and control inputs (section 2.7). -/
def State.Stays (e : ElemNo) (s t : State) : Prop :=
  ∀ x, s.elem e = some x → x.exposed = true → ∃ y, t.elem e = some y ∧ y.exposed = true ∧
    y.commanded = x.commanded ∧ y.hold = x.hold ∧ t.control e = s.control e

theorem State.Stays.trans {e : ElemNo} {s t u : State} (h : State.Stays e s t) (k : State.Stays e t u) :
    State.Stays e s u := by
  intro x hx hexp
  obtain ⟨y, hy, hyexp, hcom, hhold, hctl⟩ := h x hx hexp
  obtain ⟨z, hz, hzexp, hcom', hhold', hctl'⟩ := k y hy hyexp
  exact ⟨z, hz, hzexp, hcom'.trans hcom, hhold'.trans hhold, hctl'.trans hctl⟩

/-- `t` keeps of `s` the laws of the records, of the control inputs, of the arbiter and of element states, and that
nothing is left to be started. -/
structure Tame (s t : State) : Prop extends Evolves s t, Quiets s t where
  lawful : s.lawful → t.lawful

theorem Tame.refl (s : State) : Tame s s := ⟨.refl s, .refl s, id⟩

theorem Tame.trans {s t u : State} (h : Tame s t) (k : Tame t u) : Tame s u :=
  ⟨h.toEvolves.trans k.toEvolves, h.toQuiets.trans k.toQuiets, k.lawful ∘ h.lawful⟩

/-- And no exposed element is moved or leaves SET and LIVE. -/
structure Calm (s t : State) : Prop extends Tame s t where
  stays : s.lawful → ∀ e, State.Stays e s t

theorem Calm.trans {s t u : State} (h : Calm s t) (k : Calm t u) : Calm s u :=
  ⟨h.toTame.trans k.toTame, fun hs e => (h.stays hs e).trans (k.stays (h.lawful hs) e)⟩

/-! ### Changes that leave the arbiter and the elements as they are -/

/-- `t` has of the arbiter and the elements what `s` has. -/
structure ArbSame (s t : State) : Prop extends ArbFrame s t where
  elems     : t.elems = s.elems
  controls  : t.controls = s.controls
  moveQueue : t.moveQueue = s.moveQueue
  services  : t.services = s.services
  channels  : t.channels = s.channels

theorem ArbSame.refl (s : State) : ArbSame s s := ⟨.refl s, rfl, rfl, rfl, rfl, rfl⟩

theorem ArbSame.trans {s t u : State} (h : ArbSame s t) (k : ArbSame t u) : ArbSame s u :=
  ⟨h.toArbFrame.trans k.toArbFrame, k.elems.trans h.elems, k.controls.trans h.controls,
    k.moveQueue.trans h.moveQueue, k.services.trans h.services, k.channels.trans h.channels⟩

theorem TxKept.arbSame {s t : State} (h : TxKept s t) : ArbSame s t :=
  ⟨⟨h.touched.nodeState, h.touched.config, h.touched.laneHold, h.touched.coilOk, h.restart⟩, h.touched.elems,
    h.touched.controls, h.touched.moveQueue, h.touched.services, h.touched.channels⟩

theorem ArbSame.spares {s t : State} (h : ArbSame s t) (e : ElemNo) : State.Spares e s t :=
  .of_eq e h.elems h.controls h.moveQueue h.services h.channels

theorem ArbFrame.grantable_iff {s t : State} (h : ArbFrame s t) (moveQueue : t.moveQueue = s.moveQueue)
    (channels : ∀ c, t.channel c = .idle ↔ s.channel c = .idle) : t.grantable ↔ s.grantable := by
  unfold State.grantable
  rw [h.nodeState, h.coilOk, h.laneHold, moveQueue]
  simp only [channels]

theorem ArbFrame.startable_iff {s t : State} (h : ArbFrame s t) (moveQueue : t.moveQueue = s.moveQueue) :
    t.startable ↔ s.startable := by
  unfold State.startable
  rw [h.nodeState, h.laneHold, moveQueue]

/-- A change of the element records of elements in use leaves what can be started. -/
theorem Quiets.of_frame {s t : State} (h : ArbFrame s t) (moveQueue : t.moveQueue = s.moveQueue)
    (channels : ∀ c, t.channel c = .idle ↔ s.channel c = .idle)
    (elems : ∀ e, (s.elem e).isSome = true → (t.elem e).isSome = true) : Quiets s t :=
  ⟨fun hk m hm => elems _ (hk m (moveQueue ▸ hm)), fun _ hq => by
    rw [State.quiet, h.grantable_iff moveQueue channels, h.startable_iff moveQueue]
    exact hq⟩

theorem State.Stays.of_eq {e : ElemNo} {s t : State} (helem : t.elem e = s.elem e) (hcontrol : t.control e = s.control e) :
    State.Stays e s t := fun x hx hexp => ⟨x, helem.trans hx, hexp, rfl, rfl, hcontrol⟩

theorem Element.exposed_not_mayPend {x : Element} (h : x.exposed = true) : ¬x.mayPend := by
  rintro (hs | ⟨hs, -⟩) <;> simp [Element.exposed, hs] at h

/-- An exposed element has no move that could start. -/
theorem State.Spares.stays {e : ElemNo} {s t : State} (h : State.Spares e s t) {p : Prop} (hs : s.Place p e) :
    State.Stays e s t := by
  cases h with
  | same elem control => exact .of_eq elem control
  | started m x v mem before =>
    intro y hy hexp
    obtain ⟨_, z, -, -, hz, hpend, -⟩ := hs.of_entry (State.hasEntry_iff.2 ⟨m, State.mem_entriesOf.1 mem⟩)
    cases hy.symm.trans hz
    exact absurd hpend (Element.exposed_not_mayPend hexp)

theorem ArbSame.calm {s t : State} (h : ArbSame s t) : Calm s t where
  config := h.config
  elems e := by rw [State.elem_congr h.elems e]; exact Option.Rel.evolves_refl _ _
  controls e he := absurd (show t.controls[e] = s.controls[e] by rw [h.controls]) he
  starting hn := h.nodeState ▸ hn
  toQuiets := .of_frame h.toArbFrame h.moveQueue (fun c => by rw [State.channel_congr h.channels c])
    fun e => by rw [State.elem_congr h.elems e]; exact id
  lawful hs e := (h.spares e).lawAt h.toArbFrame (hs e)
  stays hs e := (h.spares e).stays (hs e).place

/-! ### Operations that work on one element -/

/-- `t` is `s` after work on element `e`: the other elements are as they were, but for the start of moves that were
pending. -/
structure WorksAt (e : ElemNo) (s t : State) : Prop extends Evolves s t, Quiets s t where
  frame  : ArbFrame s t
  spares : ∀ f, f ≠ e → State.Spares f s t
  lawAt  : s.lawAt e → t.lawAt e

theorem WorksAt.tame {e : ElemNo} {s t : State} (h : WorksAt e s t) : Tame s t :=
  ⟨h.toEvolves, h.toQuiets, fun hs f => by
    by_cases hf : f = e
    · subst hf; exact h.lawAt (hs f)
    · exact (h.spares f hf).lawAt h.frame (hs f)⟩

/-- Work on an element that is not exposed, or that stays so, is calm. -/
theorem WorksAt.calm {e : ElemNo} {s t : State} (h : WorksAt e s t) (hstays : s.lawAt e → State.Stays e s t) : Calm s t :=
  ⟨h.tame, fun hs f => by
    by_cases hf : f = e
    · subst hf; exact hstays (hs f)
    · exact (h.spares f hf).stays (hs f).place⟩

theorem WorksAt.refl (e : ElemNo) (s : State) : WorksAt e s s :=
  ⟨.refl s, .refl s, .refl s, fun f _ => .refl f s, id⟩

theorem WorksAt.trans_same {e : ElemNo} {s t u : State} (h : WorksAt e s t) (k : ArbSame t u) : WorksAt e s u :=
  ⟨h.toEvolves.trans k.calm.toEvolves, h.toQuiets.trans k.calm.toQuiets, h.frame.trans k.toArbFrame,
    fun f hf => (h.spares f hf).trans h.frame (k.spares f), fun hs => (k.spares e).lawAt k.toArbFrame (h.lawAt hs)⟩

theorem ArbSame.worksAt {s t : State} (h : ArbSame s t) (e : ElemNo) : WorksAt e s t :=
  (WorksAt.refl e s).trans_same h

/-- Neither to move nor moving (R12, R37). -/
def Element.atRest (x : Element) : Prop := ¬x.mayPend ∧ x.state ≠ .moving

theorem Element.atRest_of_state {x : Element} (h : x.state ≠ .waiting) (h' : x.state ≠ .moving)
    (h'' : x.state = .returning → x.verifyDue = true) : x.atRest := by
  refine ⟨?_, h'⟩
  rintro (hs | ⟨hs, hdue⟩)
  · exact h hs
  · rw [h'' hs] at hdue; cases hdue

section
variable {s : State} {e : ElemNo} {x y : Element}

theorem State.setElem_spares (y : Element) {f : ElemNo} (hf : f ≠ e) : State.Spares f s (s.setElem e y) :=
  .same (s.elem_setElem_ne y hf) rfl rfl rfl fun _ => rfl

theorem State.setElem_evolves (hx : s.elem e = some x) (hy : x.Evolves s.config y) : Evolves s (s.setElem e y) := by
  refine ⟨rfl, fun f => ?_, fun f h => absurd rfl h, id⟩
  rw [State.elem_setElem]
  split
  next hf => subst hf; rw [hx]; exact .some hy
  next => exact Option.Rel.evolves_refl _ _

theorem State.setElem_quiets (s : State) (e : ElemNo) (y : Element) : Quiets s (s.setElem e y) := by
  refine .of_frame ⟨rfl, rfl, rfl, rfl, rfl⟩ rfl (fun _ => .rfl) fun f hf => ?_
  rw [State.elem_setElem]
  split
  · rfl
  · exact hf

/-- A record at rest takes the place of one at rest. -/
theorem State.setElem_lawAt_of_bare (hbare : s.bareAt e) (hrest : y.atRest) (hsafe : y.stateSafe)
    (hstart : s.nodeState ≠ .starting) (hseed : s.nodeState = .seeding → y.state = .free) :
    (s.setElem e y).lawAt e := by
  have helem : ∀ {z}, (s.setElem e y).elem e = some z → z = y := fun hz => by
    rw [State.elem_setElem_self] at hz; exact (Option.some.inj hz).symm
  exact ⟨.idle ⟨hbare.entries, hbare.services, hbare.pulses⟩ (fun z hz => helem hz ▸ hrest.2)
    fun _ z hz => helem hz ▸ hrest.1, fun z hz => helem hz ▸ hsafe, fun hn z hz => helem hz ▸ hseed hn,
    fun hn => absurd hn hstart⟩

theorem State.lawAt.not_starting (h : s.lawAt e) (hx : s.elem e = some x) : s.nodeState ≠ .starting := fun hn => by
  rw [h.start hn] at hx; cases hx

theorem State.lawAt.not_seeding (h : s.lawAt e) (hx : s.elem e = some x) (hfree : x.state ≠ .free) :
    s.nodeState ≠ .seeding := fun hn => hfree (h.seed hn x hx)

/-- The record of an element at rest changes, and the element stays at rest. -/
theorem WorksAt.setElem_atRest (hx : s.elem e = some x) (hgrow : x.Evolves s.config y) (hrest : x.atRest)
    (hrest' : y.atRest) (hsafe : x.stateSafe → y.stateSafe)
    (hseed : x.state = .free → s.nodeState = .seeding → y.state = .free) : WorksAt e s (s.setElem e y) :=
  ⟨s.setElem_evolves hx hgrow, s.setElem_quiets e y, (s.setElem_arb e y).frame, fun _ hf => State.setElem_spares y hf,
    fun hs => State.setElem_lawAt_of_bare (hs.place.bareAt hx hrest.1 hrest.2) hrest' (hsafe (hs.state x hx))
      (hs.not_starting hx) fun hn => hseed (hs.seed hn x hx) hn⟩

/-- Where an element stands does not hang on the rest of its record. -/
theorem State.Place.setElem_sameState {p : Prop} (h : s.Place p e) (hx : s.elem e = some x) (hcls : y.cls = x.cls)
    (hstate : y.state = x.state) (hdue : y.verifyDue = x.verifyDue) : (s.setElem e y).Place p e := by
  have helem : (s.setElem e y).elem e = some y := s.elem_setElem_self e y
  have hpend : y.mayPend ↔ x.mayPend := by unfold Element.mayPend; rw [hstate, hdue]
  have hmove : y.mayMove ↔ x.mayMove := by unfold Element.mayMove; rw [hstate, hdue]
  cases h with
  | idle bare moving held =>
    exact .idle ⟨bare.entries, bare.services, bare.pulses⟩
      (fun z hz => by cases helem.symm.trans hz; exact hstate ▸ moving x hx)
      fun hr z hz => by cases helem.symm.trans hz; rw [hpend]; exact held hr x hx
  | pending m z entries services pulses elem mayPend marked =>
    cases hx.symm.trans elem
    exact .pending m y entries services pulses helem (hpend.2 mayPend) (by rw [hcls]; exact marked)
  | serving v z entries services elem mayMove =>
    cases hx.symm.trans elem
    exact .serving v y entries services helem (hmove.2 mayMove)

/-- The record changes, and its state stays. -/
theorem WorksAt.setElem_sameState (hx : s.elem e = some x) (hgrow : x.Evolves s.config y) (hstate : y.state = x.state)
    (hdue : y.verifyDue = x.verifyDue) (hsafe : x.stateSafe → y.stateSafe) : WorksAt e s (s.setElem e y) := by
  refine ⟨s.setElem_evolves hx hgrow, s.setElem_quiets e y, (s.setElem_arb e y).frame,
    fun _ hf => State.setElem_spares y hf, fun hs => ?_⟩
  have helem : (s.setElem e y).elem e = some y := s.elem_setElem_self e y
  refine ⟨hs.place.setElem_sameState hx hgrow.cls hstate hdue, fun z hz => ?_, fun hn z hz => ?_,
    fun hn => absurd hn (hs.not_starting hx)⟩
  · cases helem.symm.trans hz
    exact hsafe (hs.state x hx)
  · cases helem.symm.trans hz
    exact hstate.trans (hs.seed hn x hx)

end

/-- A change of one record that keeps its state, on the element where it is in use. -/
theorem WorksAt.modElem_sameState (s : State) (e : ElemNo) {f : Element → Element}
    (hgrow : ∀ x : Element, x.Evolves s.config (f x)) (hstate : ∀ x, (f x).state = x.state)
    (hdue : ∀ x, (f x).verifyDue = x.verifyDue) (hsafe : ∀ x, x.stateSafe → (f x).stateSafe) :
    WorksAt e s (s.modElem e f) := by
  unfold State.modElem
  split
  next x hx => exact .setElem_sameState hx (hgrow x) (hstate x) (hdue x) (hsafe x)
  next => exact .refl e s

/-! ### Starts and queued moves -/

theorem State.startMove_evolves {s : State} (hn : s.nodeState ≠ .starting) (m : MoveEntry) (ch : Option ChannelNo) :
    Evolves s (s.startMove m ch) := by
  cases hx : s.elem m.elem with
  | none => rw [State.startMove_of_none hx]; exact .refl s
  | some x =>
    refine ⟨(s.startMove_touches m ch).config, fun e => ?_, fun e he => ?_, fun h => ?_⟩
    · rw [State.startMove_elem hx]
      split
      next h => subst h; rw [hx]; exact .some (x.startMove_evolves _ _)
      next => exact Option.Rel.evolves_refl _ _
    · rw [State.startMove_control hx] at he
      split at he
      next h => exact ⟨(s.startMove_touches m ch).nodeState ▸ hn, x, h.1 ▸ hx, h.2⟩
      next => exact absurd rfl he
    · exact absurd ((s.startMove_touches m ch).nodeState ▸ h) hn

theorem Starts.evolves {s t : State} (h : Starts s t) : Evolves s t := by
  induction h with
  | refl => exact .refl _
  | step h _ ih =>
    refine Evolves.trans ?_ ih
    rw [h.eq]
    exact State.startMove_evolves (by rw [h.running]; nofun) _ _

theorem Starts.quiets {s t : State} (h : Starts s t) : Quiets s t :=
  ⟨h.known, fun _ hq => ⟨h.not_grantable hq.1, h.not_startable hq.2⟩⟩

theorem Starts.calm {s t : State} (h : Starts s t) : Calm s t :=
  ⟨⟨h.evolves, h.quiets, h.lawful⟩, fun hs e => (h.spares e).stays (hs e).place⟩

theorem State.queueMove_evolves (s : State) (e : ElemNo) (t : Throw) (k : Lane) : Evolves s (s.queueMove e t k) := by
  cases hx : s.elem e with
  | none => simp only [State.queueMove, hx]; exact .refl s
  | some x =>
    have h := (State.queueMove_starts hx t k).evolves
    exact ⟨h.config, h.elems, h.controls, h.starting⟩

theorem State.pushMove_known {s : State} {m : MoveEntry} (hx : (s.elem m.elem).isSome = true) (hk : s.known) :
    (s.pushMove m).known := fun m' hm' => by
  rcases List.mem_append.1 hm' with hm' | hm'
  · exact hk m' hm'
  · cases List.mem_singleton.1 hm'; exact hx

/-- A queued move leaves nothing to be started: it starts itself, if it can (R41, R47). -/
theorem State.queueMove_quiets (s : State) (e : ElemNo) (t : Throw) (k : Lane) : Quiets s (s.queueMove e t k) := by
  cases hx : s.elem e with
  | none => simp only [State.queueMove, hx]; exact .refl s
  | some x =>
    have hsome : (s.elem e).isSome = true := by rw [hx]; rfl
    refine ⟨fun hk => (State.queueMove_starts hx t k).known (State.pushMove_known hsome hk), fun hk hq => ?_⟩
    have hpush : ∀ {m : MoveEntry}, m.needsChannel = true → ¬(s.pushMove m).startable := by
      rintro m hm ⟨hn, m', hm', hneeds, hheld⟩
      rcases List.mem_append.1 hm' with hm' | hm'
      · exact hq.2 ⟨hn, m', hm', hneeds, hheld⟩
      · cases List.mem_singleton.1 hm'
        rw [hm] at hneeds; cases hneeds
    have hpush' : ∀ {m : MoveEntry}, m.needsChannel = false → ¬(s.pushMove m).grantable := by
      rintro m hm ⟨hn, hcoil, hc, m', hm', hneeds, hheld⟩
      rcases List.mem_append.1 hm' with hm' | hm'
      · exact hq.1 ⟨hn, hcoil, hc, m', hm', hneeds, hheld⟩
      · cases List.mem_singleton.1 hm'
        rw [hm] at hneeds; cases hneeds
    simp only [State.queueMove, hx]
    split
    next hneeds =>
      have hstarts := State.grants_starts (s.pushMove ⟨e, t, k, needsChannel x.cls t⟩)
      exact ⟨State.grants_not_grantable (State.pushMove_known hsome hk), hstarts.not_startable (hpush hneeds)⟩
    next hneeds =>
      have hneeds : needsChannel x.cls t = false := by simpa using hneeds
      split
      next h =>
        have hone : StartOne (s.pushMove ⟨e, t, k, needsChannel x.cls t⟩)
            ((s.pushMove ⟨e, t, k, needsChannel x.cls t⟩).startMove ⟨e, t, k, needsChannel x.cls t⟩ none)
            ⟨e, t, k, needsChannel x.cls t⟩ none :=
          ⟨h.1, by simp [State.pushMove], h.2, hneeds.symm, nofun, hsome, rfl⟩
        refine ⟨(Starts.one hone).not_grantable (hpush' hneeds), ?_⟩
        rintro ⟨hn, m', hm', hneeds', hheld⟩
        have hx' : (s.pushMove ⟨e, t, k, needsChannel x.cls t⟩).elem e = some x := hx
        change m' ∈ (State.startMove (s.pushMove ⟨e, t, k, needsChannel x.cls t⟩)
          ⟨e, t, k, needsChannel x.cls t⟩ none).moveQueue at hm'
        rw [State.startMove_moveQueue hx'] at hm'
        obtain ⟨hmem, hne⟩ := List.mem_filter.1 hm'
        have hframe := hone.touches.frame
        rcases List.mem_append.1 hmem with hmem | hmem
        · exact hq.2 ⟨h.1, m', hmem, hneeds', hframe.laneHold ▸ hheld⟩
        · cases List.mem_singleton.1 hmem
          simp at hne
      next h =>
        refine ⟨hpush' hneeds, ?_⟩
        rintro ⟨hn, m', hm', hneeds', hheld⟩
        rcases List.mem_append.1 hm' with hm' | hm'
        · exact hq.2 ⟨hn, m', hm', hneeds', hheld⟩
        · cases List.mem_singleton.1 hm'
          exact h ⟨hn, hheld⟩

/-- The record of an element without a move is on its way, and its move is queued: it is pending, or in service. -/
theorem State.requeue_place {s : State} {e : ElemNo} {y : Element} (hbare : s.bareAt e) (hpend : y.mayPend)
    (t : Throw) (k : Lane) (p : Prop) : ((s.setElem e y).queueMove e t k).Place p e := by
  have hy : (s.setElem e y).elem e = some y := s.elem_setElem_self e y
  refine ((State.queueMove_starts hy t k).spares e).place (.pending ⟨e, t, k, needsChannel y.cls t⟩ y ?_ hbare.services
    hbare.pulses hy hpend rfl)
  rw [State.pushMove_entriesOf, if_pos rfl]
  exact congrArg (· ++ _) hbare.entries

theorem State.requeue_stateSafe {s : State} {e : ElemNo} {y : Element} (hsafe : y.stateSafe) (t : Throw) (k : Lane) :
    ∀ z, ((s.setElem e y).queueMove e t k).elem e = some z → z.stateSafe := by
  have hy : (s.setElem e y).elem e = some y := s.elem_setElem_self e y
  refine ((State.queueMove_starts hy t k).spares e).stateSafe fun z hz => ?_
  cases hy.symm.trans hz
  exact hsafe

theorem State.requeue_frame (s : State) (e : ElemNo) (y : Element) (t : Throw) (k : Lane) :
    ArbFrame s ((s.setElem e y).queueMove e t k) :=
  ((s.setElem_arb e y).trans (State.queueMove_touches _ e t k)).frame

theorem State.requeue_lawAt {s : State} {e : ElemNo} {y : Element} (hbare : s.bareAt e) (hpend : y.mayPend)
    (hsafe : y.stateSafe) (hstart : s.nodeState ≠ .starting) (hseed : s.nodeState ≠ .seeding) (t : Throw) (k : Lane) :
    ((s.setElem e y).queueMove e t k).lawAt e := by
  have hnode := (s.requeue_frame e y t k).nodeState
  exact ⟨State.requeue_place hbare hpend t k _, State.requeue_stateSafe hsafe t k,
    fun hn => absurd (hnode ▸ hn) hseed, fun hn => absurd (hnode ▸ hn) hstart⟩

theorem State.requeue_spares (s : State) {e f : ElemNo} (hf : f ≠ e) (y : Element) (t : Throw) (k : Lane) :
    State.Spares f s ((s.setElem e y).queueMove e t k) :=
  (State.setElem_spares y hf).trans (s.setElem_arb e y).frame (State.queueMove_spares _ hf t k)

/-- An element at rest goes on its way, with its move queued. -/
theorem WorksAt.requeue {s : State} {e : ElemNo} {x y : Element} (hx : s.elem e = some x)
    (hgrow : x.Evolves s.config y) (hrest : x.atRest) (hfree : x.state ≠ .free) (hpend : y.mayPend)
    (hsafe : x.stateSafe → y.stateSafe) (t : Throw) (k : Lane) :
    WorksAt e s ((s.setElem e y).queueMove e t k) :=
  ⟨(s.setElem_evolves hx hgrow).trans (State.queueMove_evolves _ e t k),
    (s.setElem_quiets e y).trans (State.queueMove_quiets _ e t k), s.requeue_frame e y t k,
    fun _ hf => s.requeue_spares hf y t k, fun hs => State.requeue_lawAt (hs.place.bareAt hx hrest.1 hrest.2) hpend
      (hsafe (hs.state x hx)) (hs.not_starting hx) (hs.not_seeding hx hfree) t k⟩

end Sys2Proof.Machine
end

section
/-!
PROOFS. What the operations of slots, timers, channels and element records keep of the arbiter and the elements.
-/

namespace Sys2Proof.Machine

/-! ### The transmit side, the slots and the line leave the arbiter as it is -/

theorem ArbSame.of_eq {s t : State} (h : (t.nodeState, t.config, t.laneHold, t.coilOk, t.restart.isSome, t.elems,
    t.controls, t.moveQueue, t.services, t.channels) = (s.nodeState, s.config, s.laneHold, s.coilOk,
    s.restart.isSome, s.elems, s.controls, s.moveQueue, s.services, s.channels)) : ArbSame s t := by
  simp only [Prod.mk.injEq] at h
  obtain ⟨nodeState, config, laneHold, coilOk, restart, elems, controls, moveQueue, services, channels⟩ := h
  exact ⟨⟨nodeState, config, laneHold, coilOk, restart⟩, elems, controls, moveQueue, services, channels⟩

theorem ArbSame.foldl {α : Type} {f : State → α → State} (h : ∀ s a, ArbSame s (f s a)) :
    ∀ (l : List α) (s : State), ArbSame s (l.foldl f s)
  | [], s => .refl s
  | a :: l, s => (h s a).trans (ArbSame.foldl h l (f s a))

theorem State.enqueue_arbSame (s : State) (f : Frame) : ArbSame s (s.enqueue f) := (s.enqueue_txKept f).arbSame

theorem State.enqueueLast_arbSame (s : State) (i : TxItem) : ArbSame s (s.enqueueLast i) :=
  (s.enqueueLast_txKept i).arbSame

theorem State.capture_arbSame (s : State) (k : FaultKind) (loc : Option ElemNo) (h : Option Handle) :
    ArbSame s (s.capture k loc h) := (s.capture_txKept k loc h).arbSame

theorem State.hopstat_arbSame (s : State) (h : Handle) (m : HopMask) (st : Status) (r : Reason) (w : Bool) :
    ArbSame s (s.hopstat h m st r w) := s.enqueue_arbSame _

theorem State.accountOwn_arbSame (s : State) (a : Teardown → RestartSeq → RestartSeq) (f : Frame) :
    ArbSame s (s.accountOwn a f) := (s.accountOwn_txKept a f).arbSame

theorem State.setSlot_arbSame (s : State) (g : Gate) (sl : Slot) : ArbSame s (s.setSlot g sl) := .of_eq rfl

theorem State.setSlot_setGate_arbSame (s : State) (g : Gate) (sl : Slot) (b : Bool) :
    ArbSame s ((s.setSlot g sl).setGate g b) := .of_eq rfl

theorem State.slotRelease_arbSame (s : State) (g : Gate) (r : Reason) : ArbSame s (s.slotRelease g r) :=
  (s.setSlot_arbSame g _).trans (State.enqueue_arbSame _ _)

theorem State.endPath_arbSame (s : State) (g : Gate) (r : Reason) : ArbSame s (s.endPath g r) := by
  unfold State.endPath
  dsimp only
  split
  case h_3 | h_4 => exact s.slotRelease_arbSame g r
  case h_5 => exact (s.setSlot_setGate_arbSame g _ _).trans (State.enqueue_arbSame _ _)
  case h_7 =>
    split
    · exact s.setSlot_arbSame g _
    · exact .refl s
  case h_6 => exact s.setSlot_arbSame g _
  all_goals exact .refl s

theorem State.makeStep_arbSame (s : State) (g : Gate) (sc : Scan) (t : Throw) : ArbSame s (s.makeStep g sc t) := by
  unfold State.makeStep
  dsimp only
  split
  · exact s.setSlot_arbSame g _
  · exact s.setSlot_setGate_arbSame g _ _

theorem State.triggerHot_arbSame (s : State) (g : Gate) (sc : Scan) : ArbSame s (s.triggerHot g sc) := by
  unfold State.triggerHot
  dsimp only
  split
  · exact s.setSlot_arbSame g _
  · split
    · exact .refl s
    · split
      · exact (s.setSlot_arbSame g _).trans (State.enqueueLast_arbSame _ _)
      · exact s.makeStep_arbSame g _ _

theorem State.trigger_arbSame (s : State) (g : Gate) : ArbSame s (s.trigger g) := by
  unfold State.trigger
  split
  · exact .refl s
  · split
    · exact .refl s
    · split
      · exact s.triggerHot_arbSame g _
      case h_2 | h_3 | h_4 => exact s.setSlot_arbSame g _
      all_goals exact .refl s

theorem State.takePending_arbSame (s : State) (g : Gate) : ArbSame s (s.takePending g) := by
  unfold State.takePending
  split
  · split
    · exact (s.setSlot_arbSame g _).trans (State.trigger_arbSame _ g)
    · exact .refl s
  · exact .refl s

theorem State.openGate_arbSame (s : State) (g : Gate) : ArbSame s (s.openGate g) := by
  have hopen : ArbSame s (((s.setSlot g { s.slot g with
      state := .hot, timer := none, quenchTimer := none, purpose := none }).setGate g true).enqueue
        (.hot ⟨s.address, g⟩)) := (s.setSlot_setGate_arbSame g _ _).trans (State.enqueue_arbSame _ _)
  unfold State.openGate
  dsimp only
  split
  · exact hopen.trans (State.takePending_arbSame _ g)
  · exact hopen

theorem State.testReady_arbSame (s : State) (g : Gate) : ArbSame s (s.testReady g) := by
  unfold State.testReady
  dsimp only
  split
  · split
    · exact s.setSlot_arbSame g _
    · exact s.openGate_arbSame g
  · exact .refl s

theorem State.slotAsserted_arbSame (g : Gate) (s : State) : ArbSame s (s.slotAsserted g) := by
  unfold State.slotAsserted
  dsimp only
  split
  · exact (s.setSlot_setGate_arbSame g _ _).trans (State.enqueue_arbSame _ _)
  · exact s.setSlot_arbSame g _
  all_goals exact .refl s

theorem State.seeHopstat_arbSame (s : State) (g : Gate) (mask : HopMask) (st : Status) :
    ArbSame s (s.seeHopstat g mask st) := by
  have hready : ArbSame s ((s.setSlot g ((s.slot g).takeReady mask)).testReady g) :=
    (s.setSlot_arbSame g _).trans (State.testReady_arbSame _ g)
  have hdrop : ArbSame s (if (s.slot g).scan.isSome then
      (s.setSlot g { s.slot g with scan := none }).enqueueLast
        (.frame (.notice .scanRefused (some ⟨s.address, g⟩) Reason.hopRefused.code)) else s) := by
    split
    · exact (s.setSlot_arbSame g _).trans (State.enqueueLast_arbSame _ _)
    · exact .refl s
  cases st with
  | ready =>
    unfold State.seeHopstat State.seeReady
    dsimp only
    split
    case h_1 | h_2 => exact hready
    all_goals exact .refl s
  | refused => exact s.endPath_arbSame g _
  | fault => exact s.endPath_arbSame g _
  | scanRefused =>
    unfold State.seeHopstat State.seeScanRefused
    dsimp only
    split
    case h_1 | h_2 => exact .refl s
    all_goals exact hdrop

theorem State.scanAnchor_arbSame (s : State) (g : Gate) (S : ThrowSet) (d k : Nat) :
    ArbSame s (s.scanAnchor g S d k) := by
  have hscan : ArbSame s (if (s.slot g).scanOk S then
      s.setSlot g { s.slot g with scan := some ((s.slot g).newScan S d k) }
      else s.enqueueLast (.frame (.notice .scanRefused (some ⟨s.address, g⟩) Reason.badSet.code))) := by
    split
    · exact s.setSlot_arbSame g _
    · exact s.enqueueLast_arbSame _
  unfold State.scanAnchor
  dsimp only
  split
  case h_1 | h_2 => exact .refl s
  all_goals exact hscan

theorem State.scanLastHop_arbSame (s : State) (h : Handle) (S : ThrowSet) : ArbSame s (s.scanLastHop h S) := by
  unfold State.scanLastHop
  split
  · split
    · exact s.hopstat_arbSame _ _ _ _ _
    · exact .refl s
  · exact .refl s

theorem State.anchorRole_arbSame (s : State) (h : Handle) (r : Resolved) : ArbSame s (s.anchorRole h r) := by
  unfold State.anchorRole
  split
  · split
    · exact s.enqueue_arbSame _
    · exact (s.setSlot_arbSame _ _).trans (State.enqueue_arbSame _ _)
  · exact s.enqueue_arbSame _
  · exact s.enqueue_arbSame _
  all_goals exact .refl s

theorem State.ownRelease_arbSame (s : State) (a : Address) (h : Handle) : ArbSame s (s.ownRelease a h) := by
  unfold State.ownRelease
  split
  · exact s.setSlot_arbSame _ _
  · exact .refl s

theorem State.keepPlace_arbSame (s : State) : ArbSame s s.keepPlace := by
  unfold State.keepPlace
  split <;> exact .of_eq rfl

theorem State.winAttempt_arbSame (s : State) (query : Option Subject) : ArbSame s (s.winAttempt query) := by
  unfold State.winAttempt State.sendReport
  split
  · split
    · exact .of_eq rfl
    · split
      · exact .of_eq rfl
      · exact .refl s
  · exact .refl s

theorem State.seeQuery_arbSame (s : State) (u : Subject) : ArbSame s (s.seeQuery u) := by
  have hfill : ArbSame s (s.fillTeardown.enqueueLast .report) :=
    s.fillTeardown_txKept.arbSame.trans (State.enqueueLast_arbSame _ _)
  unfold State.seeQuery
  split
  · unfold State.queueReport
    dsimp only
    split
    · exact hfill.trans (.of_eq rfl)
    · exact hfill
  · split
    · split
      · exact .of_eq rfl
      all_goals exact .refl s
    · exact .of_eq rfl

theorem State.popFrame_arbSame (s : State) : ArbSame s s.popFrame := .of_eq rfl

/-! ### Runs of operations -/

theorem Calm.refl (s : State) : Calm s s := (ArbSame.refl s).calm

theorem Calm.foldl {α : Type} {f : State → α → State} (h : ∀ s a, Calm s (f s a)) :
    ∀ (l : List α) (s : State), Calm s (l.foldl f s)
  | [], s => .refl s
  | a :: l, s => (h s a).trans (Calm.foldl h l (f s a))

theorem State.forElems_calm {f : ElemNo → State → State} (h : ∀ e s, Calm s (f e s)) (s : State)
    (es : List ElemNo) : Calm s (s.forElems es f) := Calm.foldl (fun s e => h e s) es s

theorem Tame.foldl {α : Type} {f : State → α → State} (h : ∀ s a, Tame s (f s a)) :
    ∀ (l : List α) (s : State), Tame s (l.foldl f s)
  | [], s => .refl s
  | a :: l, s => (h s a).trans (Tame.foldl h l (f s a))

section
variable {f : ElemNo → State → State} (hframe : ∀ e s, ArbFrame s (f e s))
  (hspares : ∀ e s g, g ≠ e → State.Spares g s (f e s))
include hframe hspares

/-- A run of operations that each work on the element they name spares an element that is not in its list. -/
theorem State.forElems_spares {e : ElemNo} : ∀ (es : List ElemNo) (s : State), e ∉ es →
    ArbFrame s (s.forElems es f) ∧ State.Spares e s (s.forElems es f)
  | [], s, _ => ⟨.refl s, .refl e s⟩
  | a :: es, s, hnot => by
    obtain ⟨hne, hrest⟩ := not_or.1 (mt List.mem_cons.2 hnot)
    obtain ⟨kframe, kspares⟩ := State.forElems_spares es (f a s) hrest
    exact ⟨(hframe a s).trans kframe, (hspares a s e hne).trans (hframe a s) kspares⟩

/-- An element of the list is worked on once, and is spared before and after. -/
theorem State.forElems_split {es : List ElemNo} (hes : es.Nodup) {e : ElemNo} (he : e ∈ es) (s : State) :
    ∃ u, ArbFrame s u ∧ State.Spares e s u ∧
      ArbFrame (f e u) (s.forElems es f) ∧ State.Spares e (f e u) (s.forElems es f) := by
  obtain ⟨above, below, rfl⟩ := List.append_of_mem he
  obtain ⟨-, hbelow, hdisjoint⟩ := List.nodup_append.1 hes
  have habove : e ∉ above := fun h => hdisjoint e h e List.mem_cons_self rfl
  obtain ⟨hf, hs⟩ := State.forElems_spares hframe hspares above s habove
  obtain ⟨hf', hs'⟩ := State.forElems_spares hframe hspares below (f e (s.forElems above f)) (List.nodup_cons.1 hbelow).1
  have heq : s.forElems (above ++ e :: below) f = (f e (s.forElems above f)).forElems below f := by
    simp [State.forElems]
  exact ⟨s.forElems above f, hf, hs, heq ▸ hf', heq ▸ hs'⟩

end

/-! ### The passing of time -/

theorem Element.elapse_stateSafe {x : Element} (r : Nat) (h : x.stateSafe) : (x.elapse r).stateSafe := by
  obtain ⟨noOwner, tentative, owned, released, noTarget, hasTarget, step, retry, due, run⟩ := h
  refine ⟨fun hs => by simp [Element.elapse, noOwner hs], fun o ho => ?_, fun hs => by simpa [Element.elapse] using owned hs,
    by simpa [Element.elapse] using released, noTarget, hasTarget, step, retry, due, run⟩
  obtain ⟨o', ho', rfl⟩ := Option.map_eq_some_iff.1 ho
  simpa [Element.elapse] using tentative o' ho'

@[simp] theorem Channel.elapse_pulses (r : Nat) (c : Channel) (e : ElemNo) : (c.elapse r).pulses e = c.pulses e := by
  cases c <;> rfl

theorem Channel.elapse_eq_idle {r : Nat} {c : Channel} : c.elapse r = .idle ↔ c = .idle := by
  cases c <;> simp [Channel.elapse]

theorem State.elapse_servicesOf (s : State) (r : Nat) (e : ElemNo) :
    (s.elapse r).servicesOf e = (s.servicesOf e).map (fun v => { v with left := v.left - r }) := by
  simp only [State.servicesOf, State.elapse, List.filter_map]
  rfl

theorem State.elapse_place {s : State} {e : ElemNo} {p : Prop} (r : Nat) (h : s.Place p e) : (s.elapse r).Place p e := by
  have helem := s.elem_elapse r e
  have hpulses : ∀ c, ((s.elapse r).channel c).pulses e = (s.channel c).pulses e := fun c => by
    rw [State.channel_elapse, Channel.elapse_pulses]
  have hserve := s.elapse_servicesOf r e
  cases h with
  | idle bare moving held =>
    refine .idle ⟨bare.entries, by rw [hserve, bare.services]; rfl, fun c => (hpulses c).trans (bare.pulses c)⟩
      (fun x hx => ?_) fun hp x hx => ?_
    all_goals obtain ⟨y, hy, rfl⟩ := Option.map_eq_some_iff.1 (helem.symm.trans hx)
    · exact moving y hy
    · exact held hp y hy
  | pending m x entries services pulses elem mayPend marked =>
    exact .pending m (x.elapse r) entries (by rw [hserve, services]; rfl) (fun c => (hpulses c).trans (pulses c))
      (by rw [helem, elem]; rfl) mayPend marked
  | serving v x entries services elem mayMove =>
    exact .serving _ (x.elapse r) entries (by rw [hserve, services]; rfl) (by rw [helem, elem]; rfl) mayMove

theorem State.elapse_calm (s : State) (r : Nat) : Calm s (s.elapse r) where
  config := rfl
  elems e := by
    rw [State.elem_elapse]
    cases s.elem e with
    | none => exact .none
    | some x => exact .some (.of_eq rfl)
  controls e he := absurd rfl he
  starting := id
  toQuiets := .of_frame ⟨rfl, rfl, rfl, rfl, rfl⟩ rfl (fun c => by rw [State.channel_elapse, Channel.elapse_eq_idle])
    fun e h => by rw [State.elem_elapse, Option.isSome_map]; exact h
  lawful hs e := by
    have helem := s.elem_elapse r e
    refine ⟨State.elapse_place r (hs e).place, fun x hx => ?_, fun hn x hx => ?_, fun hn => ?_⟩
    · obtain ⟨y, hy, rfl⟩ := Option.map_eq_some_iff.1 (helem.symm.trans hx)
      exact Element.elapse_stateSafe r ((hs e).state y hy)
    · obtain ⟨y, hy, rfl⟩ := Option.map_eq_some_iff.1 (helem.symm.trans hx)
      exact (hs e).seed hn y hy
    · rw [helem, (hs e).start hn]; rfl
  stays _ e x hx hexp := ⟨x.elapse r, by rw [State.elem_elapse, hx]; rfl, hexp, rfl, rfl, rfl⟩

/-! ### Records that change where they stand -/

section
variable {s : State} {e : ElemNo} {x y : Element}

/-- An element at rest, and not exposed, changes and stays at rest. -/
theorem Calm.setElem_atRest (hx : s.elem e = some x) (hgrow : x.Evolves s.config y) (hrest : x.atRest)
    (hrest' : y.atRest) (hsafe : x.stateSafe → y.stateSafe)
    (hseed : x.state = .free → s.nodeState = .seeding → y.state = .free)
    (hexposed : x.exposed = true → y.exposed = true ∧ y.commanded = x.commanded ∧ y.hold = x.hold) :
    Calm s (s.setElem e y) :=
  (WorksAt.setElem_atRest hx hgrow hrest hrest' hsafe hseed).calm fun _ z hz hexp => by
    cases hx.symm.trans hz
    obtain ⟨hy, hcommanded, hhold⟩ := hexposed hexp
    exact ⟨y, s.elem_setElem_self e y, hy, hcommanded, hhold, rfl⟩

/-- The record of an element changes, and its state stays; that of an exposed one keeps its commanded throw and its
hold. -/
theorem Calm.setElem_sameState (hx : s.elem e = some x) (hgrow : x.Evolves s.config y) (hstate : y.state = x.state)
    (hdue : y.verifyDue = x.verifyDue) (hsafe : x.stateSafe → y.stateSafe)
    (hexposed : s.lawAt e → x.exposed = true → y.commanded = x.commanded ∧ y.hold = x.hold) :
    Calm s (s.setElem e y) :=
  (WorksAt.setElem_sameState hx hgrow hstate hdue hsafe).calm fun hs z hz hexp => by
    cases hx.symm.trans hz
    obtain ⟨hcommanded, hhold⟩ := hexposed hs hexp
    exact ⟨y, s.elem_setElem_self e y, by rw [Element.exposed, hstate]; exact hexp, hcommanded, hhold, rfl⟩

theorem Calm.setElem_self (hx : s.elem e = some x) : Calm s (s.setElem e x) :=
  .setElem_sameState hx (.refl _ x) rfl rfl id fun _ _ => ⟨rfl, rfl⟩

/-- A change of one record, on the element where it is in use. -/
theorem Calm.modElem {f : Element → Element} (h : ∀ x, s.elem e = some x → Calm s (s.setElem e (f x))) :
    Calm s (s.modElem e f) := by
  unfold State.modElem
  split
  next x hx => exact h x hx
  next => exact .refl s

/-- An element at rest, and not exposed, goes on its way with its move queued. -/
theorem Calm.requeue (hx : s.elem e = some x) (hgrow : x.Evolves s.config y) (hrest : x.atRest)
    (hfree : x.state ≠ .free) (hexposed : x.exposed = false) (hpend : y.mayPend) (hsafe : x.stateSafe → y.stateSafe)
    (t : Throw) (k : Lane) : Calm s ((s.setElem e y).queueMove e t k) :=
  (WorksAt.requeue hx hgrow hrest hfree hpend hsafe t k).calm fun _ z hz hexp => by
    cases hx.symm.trans hz
    rw [hexposed] at hexp; cases hexp

end

/-! ### Channels -/

/-- A channel goes on to a state in which it pulses for no other element. -/
theorem State.setChannel_lawful {s : State} {ch : ChannelNo} {c : Channel}
    (hpulses : ∀ e, c.pulses e = true → (s.channel ch).pulses e = true) (hs : s.lawful) : (s.setChannel ch c).lawful := by
  intro e
  obtain ⟨place, state, seed, start⟩ := hs e
  have hfalse : (∀ d, (s.channel d).pulses e = false) → ∀ d, ((s.setChannel ch c).channel d).pulses e = false := by
    intro h d
    rw [State.channel_setChannel]
    split
    · by_contra hc
      exact absurd ((h ch).symm.trans (hpulses e (by simpa using hc))) nofun
    · exact h d
  refine ⟨?_, state, seed, start⟩
  cases place with
  | idle bare moving held => exact .idle ⟨bare.entries, bare.services, hfalse bare.pulses⟩ moving held
  | pending m x entries services pulses elem mayPend marked =>
    exact .pending m x entries services (hfalse pulses) elem mayPend marked
  | serving v x entries services elem mayMove => exact .serving v x entries services elem mayMove

theorem State.setChannel_evolves (s : State) (ch : ChannelNo) (c : Channel) : Evolves s (s.setChannel ch c) :=
  ⟨rfl, fun _ => Option.Rel.evolves_refl _ _, fun _ he => absurd rfl he, id⟩

theorem State.setChannel_calm {s : State} {ch : ChannelNo} {c : Channel} (hidle : c ≠ .idle)
    (hpulses : ∀ e, c.pulses e = true → (s.channel ch).pulses e = true) : Calm s (s.setChannel ch c) where
  toEvolves := s.setChannel_evolves ch c
  known hk := hk
  quiet _ hq := by
    refine ⟨fun ⟨hn, hcoil, ⟨d, hd⟩, hm⟩ => hq.1 ⟨hn, hcoil, ⟨d, ?_⟩, hm⟩, hq.2⟩
    rw [State.channel_setChannel] at hd
    split at hd
    · exact absurd hd hidle
    · exact hd
  lawful := State.setChannel_lawful hpulses
  stays _ _ := .of_eq rfl rfl

end Sys2Proof.Machine
end

section
/-!
PROOFS. What an element's state says of its record, kept by each change of state (R6 to R18).
-/

namespace Sys2Proof.Machine

section
variable {x : Element}

/-- An owner of an element that is not CLAIMED is no tentative one, and its claim timer does not run (R10, R11). -/
theorem Element.stateSafe.confirmed (h : x.stateSafe) (hs : x.state ≠ .claimed) :
    ∀ o, x.owner = some o → o.tentative = false ∧ o.claimTimer = none := fun o ho => by
  obtain ⟨htentative, htimer⟩ := h.tentative o ho
  refine ⟨Bool.eq_false_iff.2 fun ht => hs (htentative.1 ht), ?_⟩
  rw [← Option.not_isSome_iff_eq_none]
  exact fun ht => hs (htimer.1 ht)

theorem Element.stateSafe.not_released (h : x.stateSafe) (hs : x.state ≠ .moving) : x.releaseOnCompletion = false :=
  Bool.eq_false_iff.2 fun hr => hs (h.released.1 hr).1

theorem Element.stateSafe.not_due (h : x.stateSafe) (hs : x.state ≠ .returning) : x.verifyDue = false :=
  Bool.eq_false_iff.2 fun hd => hs (h.due hd)

theorem Element.toFree_stateSafe (x : Element) : x.toFree.stateSafe := by
  constructor <;> simp [Element.toFree]

/-- Release processing's ways out of the path, of an element without owner (R16). -/
theorem Element.toLatched_stateSafe (h : x.owner = none) : x.toLatched.stateSafe := by
  constructor <;> simp [Element.toLatched, h]

theorem Element.toReturning_stateSafe (h : x.owner = none) (t : Throw) : (x.toReturning t).stateSafe := by
  constructor <;> simp [Element.toReturning, h]

/-- The entry to SET of an owned element (R9, R13). -/
theorem Element.toSet_stateSafe (howner : x.owner.isSome = true)
    (hconfirmed : ∀ o, x.owner = some o → o.tentative = false ∧ o.claimTimer = none)
    (hrelease : x.releaseOnCompletion = false) (hdue : x.verifyDue = false) : x.toSet.stateSafe := by
  refine ⟨by simp [Element.toSet], fun o ho => ?_, fun _ => howner, by simp [Element.toSet, hrelease],
    by simp [Element.toSet], by simp [Element.toSet], by simp [Element.toSet], by simp [Element.toSet],
    by simp [Element.toSet, hdue], by simp [Element.toSet]⟩
  obtain ⟨htentative, htimer⟩ := hconfirmed o ho
  simp [Element.toSet, htentative, htimer]

theorem Element.stateSafe.toSet (h : x.stateSafe) (hs : x.state = .verifying ∨ x.state = .live) :
    x.toSet.stateSafe := by
  have hne : x.state ≠ .claimed ∧ x.state ≠ .moving ∧ x.state ≠ .returning := by rcases hs with hs | hs <;> simp [hs]
  exact Element.toSet_stateSafe (h.owned (by rcases hs with hs | hs <;> simp [hs])) (h.confirmed hne.1)
    (h.not_released hne.2.1) (h.not_due hne.2.2)

/-- The entry to FAULT with the owner kept (R18, R19). -/
theorem Element.stateSafe.toFault (h : x.stateSafe) (hclaimed : x.state ≠ .claimed) (hmoving : x.state ≠ .moving) :
    x.toFault.stateSafe := by
  refine ⟨by simp [Element.toFault], fun o ho => ?_, by simp [Element.toFault],
    by simp [Element.toFault, h.not_released hmoving], by simp [Element.toFault], by simp [Element.toFault],
    by simp [Element.toFault], by simp [Element.toFault], by simp [Element.toFault], by simp [Element.toFault]⟩
  obtain ⟨htentative, htimer⟩ := h.confirmed hclaimed o ho
  simp [Element.toFault, htentative, htimer]

/-- A half memory is no part of what the state says. -/
theorem Element.stateSafe.setHalf (h : x.stateSafe) (half : Half) : ({ x with half := half } : Element).stateSafe :=
  ⟨h.noOwner, h.tentative, h.owned, h.released, h.noTarget, h.hasTarget, h.step, h.retry, h.due, h.run⟩

theorem Element.stateSafe.toStuck (h : x.stateSafe) (hclaimed : x.state ≠ .claimed) (hmoving : x.state ≠ .moving) :
    x.toStuck.stateSafe := (h.toFault hclaimed hmoving).setHalf _

/-- A first verify mismatch sends a VERIFYING element back to WAITING (R60). -/
theorem Element.stateSafe.retryVerify (h : x.stateSafe) (hs : x.state = .verifying) (half : Half) :
    ({ x with state := .waiting, retry := true, half := half } : Element).stateSafe := by
  have hconfirmed := h.confirmed (by simp [hs])
  refine ⟨by simp, fun o ho => ?_, fun _ => h.owned (by simp [hs]), by simp [h.not_released (by simp [hs])], by simp,
    fun _ => h.hasTarget (by simp [hs]), h.step, by simp, by simp [h.not_due (by simp [hs])], by simp⟩
  obtain ⟨htentative, htimer⟩ := hconfirmed o ho
  simp [htentative, htimer]

/-- A first verify mismatch of a RETURNING element (R17). -/
theorem Element.stateSafe.retryReturn (h : x.stateSafe) (hs : x.state = .returning) (half : Half) :
    ({ x with retry := true, half := half, verifyDue := false } : Element).stateSafe :=
  ⟨h.noOwner, h.tentative, h.owned, h.released, h.noTarget, h.hasTarget, h.step, fun _ => by simp [hs], nofun, h.run⟩

/-- A COLD step gives an exposed element a new target (R108). -/
theorem Element.stateSafe.stepTo (h : x.stateSafe) (hs : x.state = .set ∨ x.state = .live) (t : Throw) :
    ({ x with state := .waiting, target := some t, stepTarget := true, retry := false } : Element).stateSafe := by
  have hne : x.state ≠ .claimed ∧ x.state ≠ .moving ∧ x.state ≠ .returning := by rcases hs with hs | hs <;> simp [hs]
  refine ⟨by simp, fun o ho => ?_, fun _ => h.owned (by rcases hs with hs | hs <;> simp [hs]),
    by simp [h.not_released hne.2.1], by simp, by simp, by simp, by simp, by simp [h.not_due hne.2.2], by simp⟩
  obtain ⟨htentative, htimer⟩ := h.confirmed hne.1 o ho
  simp [htentative, htimer]

/-- A confirmed claim is no tentative one (R11). -/
theorem Owner.confirm_confirmed {o : Option Owner} : ∀ o', o.map Owner.confirm = some o' →
    o'.tentative = false ∧ o'.claimTimer = none := fun o' ho => by
  obtain ⟨_, _, rfl⟩ := Option.map_eq_some_iff.1 ho
  exact ⟨rfl, rfl⟩

theorem Element.stateSafe.confirmSet (h : x.stateSafe) (hs : x.state = .claimed) :
    ({ x with owner := x.owner.map Owner.confirm } : Element).toSet.stateSafe :=
  Element.toSet_stateSafe (by simpa using h.owned (by simp [hs])) Owner.confirm_confirmed
    (h.not_released (by simp [hs])) (h.not_due (by simp [hs]))

theorem Element.stateSafe.confirmWaiting (h : x.stateSafe) (hs : x.state = .claimed) :
    ({ x with owner := x.owner.map Owner.confirm, state := .waiting, retry := false } : Element).stateSafe := by
  refine ⟨by simp, fun o ho => ?_, fun _ => by simpa using h.owned (by simp [hs]),
    by simp [h.not_released (by simp [hs])], by simp, fun _ => h.hasTarget (by simp [hs]), h.step, by simp,
    by simp [h.not_due (by simp [hs])], by simp⟩
  obtain ⟨htentative, htimer⟩ := Owner.confirm_confirmed o ho
  simp [htentative, htimer]

/-- D of a MOVING element that no RELEASE has reached (R32). -/
theorem Element.stateSafe.toVerifying (h : x.stateSafe) (hs : x.state = .moving) (hr : x.releaseOnCompletion = false) :
    ({ x with state := .verifying } : Element).stateSafe := by
  have howner : x.owner ≠ none := fun ho => by rw [h.released.2 ⟨hs, ho⟩] at hr; cases hr
  refine ⟨by simp, fun o ho => ?_, fun _ => Option.isSome_iff_ne_none.2 howner, by simp [hr], by simp,
    fun _ => h.hasTarget (by simp [hs]), h.step, by simp, by simp [h.not_due (by simp [hs])], by simp⟩
  obtain ⟨htentative, htimer⟩ := h.confirmed (by simp [hs]) o ho
  simp [htentative, htimer]

theorem Element.stateSafe.toDue (h : x.stateSafe) (hs : x.state = .returning) :
    ({ x with verifyDue := true } : Element).stateSafe :=
  ⟨h.noOwner, h.tentative, h.owned, h.released, h.noTarget, h.hasTarget, h.step, h.retry, fun _ => hs, h.run⟩

/-- A RELEASE that reaches a MOVING element (R15). -/
theorem Element.stateSafe.releaseMoving (h : x.stateSafe) (hs : x.state = .moving) :
    ({ x with owner := none, releaseOnCompletion := true } : Element).stateSafe :=
  ⟨by simp, by simp, by simp [hs], by simp [hs], h.noTarget, h.hasTarget, h.step, h.retry, h.due, h.run⟩

/-- A claim of a FREE element (R10, R98), or again of a CLAIMED one. -/
theorem Element.stateSafe.claim (h : x.stateSafe) (hs : x.state = .free ∨ x.state = .claimed) {o : Owner}
    (ho : o.tentative = true ∧ o.claimTimer.isSome = true) (t : Throw) : (x.claim o t).stateSafe := by
  have hne : x.state ≠ .moving ∧ x.state ≠ .returning ∧ x.state ≠ .waiting ∧ x.state ≠ .verifying := by
    rcases hs with hs | hs <;> simp [hs]
  have hretry : x.retry = false := Bool.eq_false_iff.2 fun hr => by
    rcases h.retry hr with h' | h' | h' | h'
    · exact hne.2.2.1 h'
    · exact hne.1 h'
    · exact hne.2.2.2 h'
    · exact hne.2.1 h'
  refine ⟨by simp [Element.claim], fun o' ho' => ?_, by simp [Element.claim],
    by simp [Element.claim, h.not_released hne.1], by simp [Element.claim], by simp [Element.claim],
    by simp [Element.claim], by simp [Element.claim, hretry], by simp [Element.claim, h.not_due hne.2.1],
    by simp [Element.claim]⟩
  obtain rfl : o = o' := Option.some.inj ho'
  simp [Element.claim, ho]

theorem Element.stateSafe.toLive (h : x.stateSafe) (hs : x.state = .set) :
    ({ x with state := .live } : Element).stateSafe := by
  refine ⟨by simp, fun o ho => ?_, fun _ => h.owned (by simp [hs]), by simp [h.not_released (by simp [hs])],
    fun _ => h.noTarget (by simp [hs]), by simp, h.step, fun hr => ?_, by simp [h.not_due (by simp [hs])], by simp⟩
  · obtain ⟨htentative, htimer⟩ := h.confirmed (by simp [hs]) o ho
    simp [htentative, htimer]
  · simpa [hs] using h.retry hr

/-- The mismatch run of an exposed element (R63). -/
theorem Element.stateSafe.setRun (h : x.stateSafe) (hs : x.state = .set ∨ x.state = .live) (n : Nat) :
    ({ x with mismatchRun := n } : Element).stateSafe :=
  ⟨h.noOwner, h.tentative, h.owned, h.released, h.noTarget, h.hasTarget, h.step, h.retry, h.due,
    fun _ => by rcases hs with hs | hs <;> simp [hs]⟩

/-- Sensed and commanded throws, holds, halves, wear and the latch are no part of what the state says. -/
theorem Element.stateSafe.of_eq_run (h : x.stateSafe) {y : Element} (heq : (y.state, y.owner, y.releaseOnCompletion,
    y.target, y.stepTarget, y.retry, y.verifyDue) = (x.state, x.owner, x.releaseOnCompletion, x.target, x.stepTarget,
    x.retry, x.verifyDue)) (run : y.mismatchRun = x.mismatchRun ∨ y.mismatchRun = 0) : y.stateSafe := by
  simp only [Prod.mk.injEq] at heq
  obtain ⟨state, owner, release, target, stepTarget, retry, due⟩ := heq
  refine ⟨by rw [state, owner]; exact h.noOwner, by rw [state, owner]; exact h.tentative,
    by rw [state, owner]; exact h.owned, by rw [state, owner, release]; exact h.released,
    by rw [state, target]; exact h.noTarget, by rw [state, target]; exact h.hasTarget,
    by rw [stepTarget, target]; exact h.step, by rw [state, retry]; exact h.retry,
    by rw [state, due]; exact h.due, ?_⟩
  rw [state]
  rcases run with run | run
  · rw [run]; exact h.run
  · exact fun hne => absurd run hne

theorem Element.stateSafe.of_eq (h : x.stateSafe) {y : Element} (heq : (y.state, y.owner, y.releaseOnCompletion,
    y.target, y.stepTarget, y.retry, y.verifyDue, y.mismatchRun) = (x.state, x.owner, x.releaseOnCompletion,
    x.target, x.stepTarget, x.retry, x.verifyDue, x.mismatchRun)) : y.stateSafe := by
  simp only [Prod.mk.injEq] at heq
  obtain ⟨state, owner, release, target, stepTarget, retry, due, run⟩ := heq
  exact h.of_eq_run (by simp only [state, owner, release, target, stepTarget, retry, due]) (.inl run)

end

end Sys2Proof.Machine
end

section
/-!
PROOFS. What the operations on one element keep of the arbiter, of the records and of the exposed elements.
-/

namespace Sys2Proof.Machine

section
variable {x : Element}

theorem Element.atRest_claimed (h : x.state = .claimed) : x.atRest := atRest_of_state (by simp [h]) (by simp [h]) (by simp [h])
theorem Element.atRest_verifying (h : x.state = .verifying) : x.atRest := atRest_of_state (by simp [h]) (by simp [h]) (by simp [h])
theorem Element.atRest_exposed (h : x.state = .set ∨ x.state = .live) : x.atRest := by
  rcases h with h | h <;> exact atRest_of_state (by simp [h]) (by simp [h]) (by simp [h])
theorem Element.atRest_fault (h : x.state = .fault) : x.atRest := atRest_of_state (by simp [h]) (by simp [h]) (by simp [h])
theorem Element.atRest_free (h : x.state = .free) : x.atRest := atRest_of_state (by simp [h]) (by simp [h]) (by simp [h])
theorem Element.atRest_due (h : x.state = .returning) (hdue : x.verifyDue = true) : x.atRest :=
  atRest_of_state (by simp [h]) (by simp [h]) fun _ => hdue

theorem Element.exposed_iff : x.exposed = true ↔ x.state = .set ∨ x.state = .live := by simp [Element.exposed]

theorem Element.toFree_evolves (cfg : ImageConfig) (x : Element) : x.Evolves cfg x.toFree :=
  .of_eq_run rfl (.inr (Nat.zero_le _))
theorem Element.toSet_evolves (cfg : ImageConfig) (x : Element) : x.Evolves cfg x.toSet :=
  .of_eq_run rfl (.inr (Nat.zero_le _))
theorem Element.toFault_evolves (cfg : ImageConfig) (x : Element) : x.Evolves cfg x.toFault :=
  .of_eq_run rfl (.inr (Nat.zero_le _))
theorem Element.toLatched_evolves (cfg : ImageConfig) (x : Element) : x.Evolves cfg x.toLatched :=
  .of_eq_run rfl (.inr (Nat.zero_le _))
theorem Element.disown_evolves (cfg : ImageConfig) (x : Element) : x.Evolves cfg x.disown :=
  .of_eq_run rfl (.inr (Nat.zero_le _))
theorem Element.toReturning_evolves (cfg : ImageConfig) (t : Throw) (x : Element) : x.Evolves cfg (x.toReturning t) :=
  .of_eq rfl
theorem Element.toStuck_evolves (cfg : ImageConfig) (x : Element) : x.Evolves cfg x.toStuck :=
  (x.toFault_evolves cfg).trans (Element.setHalf_evolves cfg x.halfUnknown_cases)

end

section
variable {s : State} {e : ElemNo} {x : Element}

/-! ### Claims -/

theorem Element.claimedFor_state {h : Handle} (hc : x.claimedFor h = true) : x.state = .claimed := by
  unfold Element.claimedFor at hc
  split at hc
  · simp only [Bool.and_eq_true, beq_iff_eq] at hc
    exact hc.2
  · cases hc

theorem Element.not_exposed_of_state (h : x.state ≠ .set) (h' : x.state ≠ .live) : x.exposed = false := by
  simp [Element.exposed, h, h']

/-- A change of an element at rest that is not exposed. -/
theorem Calm.setElem_unexposed {y : Element} (hx : s.elem e = some x) (hgrow : x.Evolves s.config y) (hrest : x.atRest)
    (hrest' : y.atRest) (hsafe : x.stateSafe → y.stateSafe)
    (hseed : x.state = .free → s.nodeState = .seeding → y.state = .free) (hexposed : x.exposed = false) :
    Calm s (s.setElem e y) :=
  .setElem_atRest hx hgrow hrest hrest' hsafe hseed fun h => by rw [hexposed] at h; cases h

/-- A change of a record that its laws rule out. -/
theorem WorksAt.setElem_of_not_lawAt {y : Element} (hx : s.elem e = some x) (hgrow : x.Evolves s.config y)
    (h : ¬s.lawAt e) : WorksAt e s (s.setElem e y) :=
  ⟨s.setElem_evolves hx hgrow, s.setElem_quiets e y, (s.setElem_arb e y).frame,
    fun _ hf => State.setElem_spares y hf, fun hs => absurd hs h⟩

/-- Work on an element that is not exposed is calm. -/
theorem WorksAt.calm_of_unexposed {t : State} (h : WorksAt e s t) (hx : s.elem e = some x) (hexposed : x.exposed = false) :
    Calm s t := h.calm fun _ y hy hexp => by
  cases hx.symm.trans hy
  rw [hexposed] at hexp; cases hexp

theorem Calm.toFree_claimed (hx : s.elem e = some x) (hs : x.state = .claimed) : Calm s (s.setElem e x.toFree) :=
  .setElem_unexposed hx (x.toFree_evolves _) (Element.atRest_claimed hs) (Element.atRest_free rfl)
    (fun _ => x.toFree_stateSafe) (fun _ _ => rfl) (Element.not_exposed_of_state (by simp [hs]) (by simp [hs]))

theorem State.dropClaims_calm (s : State) (h : Handle) : Calm s (s.dropClaims h) :=
  State.forElems_calm (fun e s => .modElem fun x hx => by
    split
    next hc => exact .toFree_claimed hx (Element.claimedFor_state hc)
    next => exact .setElem_self hx) s allElems

/-- A claim of a FREE element in a RUNNING node (R98), or again of a CLAIMED one. -/
theorem Calm.claim (hx : s.elem e = some x) (hs : x.state = .free ∨ x.state = .claimed) (hrunning : s.nodeState = .running)
    {o : Owner} (ho : o.tentative = true ∧ o.claimTimer.isSome = true) (t : Throw) : Calm s (s.setElem e (x.claim o t)) := by
  refine .setElem_unexposed hx (.of_eq rfl) ?_ (Element.atRest_claimed rfl) (fun h => h.claim hs ho t)
    (fun _ hn => by rw [hrunning] at hn; cases hn) ?_
  · rcases hs with hs | hs
    · exact Element.atRest_free hs
    · exact Element.atRest_claimed hs
  · rcases hs with hs | hs <;> exact Element.not_exposed_of_state (by simp [hs]) (by simp [hs])

/-! ### Release processing (R16) -/

/-- Release processing's steps 2 to 5, on a record without owner: the record that is left, or queued to return. -/
theorem State.releaseFromStep2_spares (s : State) {f : ElemNo} (hf : f ≠ e) (x : Element) :
    State.Spares f s (s.releaseFromStep2 e x) := by
  unfold State.releaseFromStep2
  split
  · exact State.setElem_spares _ hf
  · split
    · exact s.requeue_spares hf _ _ _
    · exact State.setElem_spares _ hf

theorem State.releaseFromStep2_evolves {y : Element} (hx : s.elem e = some x) (hy : x.Evolves s.config y) :
    Evolves s (s.releaseFromStep2 e y) := by
  unfold State.releaseFromStep2
  split
  · exact s.setElem_evolves hx (hy.trans (y.toLatched_evolves _))
  · split
    · exact (s.setElem_evolves hx (hy.trans (y.toReturning_evolves _ _))).trans (State.queueMove_evolves _ _ _ _)
    · exact s.setElem_evolves hx (hy.trans (y.toFree_evolves _))

theorem State.releaseFromStep2_quiets (s : State) (e : ElemNo) (y : Element) : Quiets s (s.releaseFromStep2 e y) := by
  unfold State.releaseFromStep2
  split
  · exact s.setElem_quiets _ _
  · split
    · exact (s.setElem_quiets _ _).trans (State.queueMove_quiets _ _ _ _)
    · exact s.setElem_quiets _ _

/-- Where release processing leaves an element without a move: at rest, or on its way with its move queued. -/
theorem State.releaseFromStep2_place {y : Element} (hbare : s.bareAt e) (p : Prop) :
    (s.releaseFromStep2 e y).Place p e := by
  have hrest : ∀ z : Element, z.atRest → (s.setElem e z).Place p e := fun z hz =>
    .idle ⟨hbare.entries, hbare.services, hbare.pulses⟩
      (fun w hw => by cases (s.elem_setElem_self e z).symm.trans hw; exact hz.2)
      fun _ w hw => by cases (s.elem_setElem_self e z).symm.trans hw; exact hz.1
  unfold State.releaseFromStep2
  split
  · exact hrest _ (Element.atRest_fault rfl)
  · split
    · exact State.requeue_place hbare (.inr ⟨rfl, rfl⟩) _ _ p
    · exact hrest _ (Element.atRest_free rfl)

theorem State.releaseFromStep2_stateSafe {y : Element} (howner : y.owner = none) :
    ∀ z, (s.releaseFromStep2 e y).elem e = some z → z.stateSafe := by
  have hset : ∀ w : Element, w.stateSafe → ∀ z, (s.setElem e w).elem e = some z → z.stateSafe := fun w hw z hz => by
    cases (s.elem_setElem_self e w).symm.trans hz; exact hw
  unfold State.releaseFromStep2
  split
  · exact hset _ (Element.toLatched_stateSafe howner)
  · split
    · exact State.requeue_stateSafe (Element.toReturning_stateSafe howner _) _ _
    · exact hset _ y.toFree_stateSafe

theorem State.releaseFromStep2_lawAt {y : Element} (hbare : s.bareAt e) (howner : y.owner = none)
    (hstart : s.nodeState ≠ .starting) (hseed : s.nodeState ≠ .seeding) : (s.releaseFromStep2 e y).lawAt e := by
  have hnode := (s.releaseFromStep2_touches e y).nodeState
  exact ⟨State.releaseFromStep2_place hbare _, State.releaseFromStep2_stateSafe howner,
    fun hn => absurd (hnode ▸ hn) hseed, fun hn => absurd (hnode ▸ hn) hstart⟩

/-- Release processing of an element at rest that is not FREE. -/
theorem State.release_worksAt (hx : s.elem e = some x) (hrest : x.atRest) (hfree : x.state ≠ .free) :
    WorksAt e s (s.release e) := by
  rw [State.release_of_elem hx]
  exact ⟨State.releaseFromStep2_evolves hx (x.disown_evolves _), s.releaseFromStep2_quiets e _,
    (s.releaseFromStep2_touches e _).frame, fun f hf => s.releaseFromStep2_spares hf _,
    fun hs => State.releaseFromStep2_lawAt (hs.place.bareAt hx hrest.1 hrest.2) rfl (hs.not_starting hx)
      (hs.not_seeding hx hfree)⟩

/-! ### The states of a path -/

/-- HOT and COLD leave the other elements and the exposed ones' throws as they are (R108). -/
theorem Element.seeHot_cases (h : Handle) (x : Element) :
    x.seeHot h = x ∨ x.state = .set ∧ x.seeHot h = { x with state := .live } := by
  unfold Element.seeHot
  split
  next hc =>
    simp only [Bool.and_eq_true, beq_iff_eq] at hc
    exact .inr ⟨hc.2, rfl⟩
  next => exact .inl rfl

theorem Element.seeCold_cases (h : Handle) (x : Element) :
    x.seeCold h = x ∨ x.state = .live ∧ x.seeCold h = x.toSet := by
  unfold Element.seeCold
  split
  next hc =>
    simp only [Bool.and_eq_true, beq_iff_eq] at hc
    exact .inr ⟨hc.2, rfl⟩
  next => exact .inl rfl

theorem State.seeHot_calm (s : State) (h : Handle) (e : ElemNo) : Calm s (s.modElem e (Element.seeHot h)) := by
  refine .modElem fun x hx => ?_
  obtain heq | ⟨hs, heq⟩ := x.seeHot_cases h <;> rw [heq]
  · exact .setElem_self hx
  · exact .setElem_atRest hx (.of_eq rfl) (Element.atRest_exposed (.inl hs)) (Element.atRest_exposed (.inr rfl))
      (fun hsafe => hsafe.toLive hs) (fun hfree => by simp [hs] at hfree) fun _ => ⟨rfl, rfl, rfl⟩

theorem State.coolElems_calm (s : State) (h : Handle) : Calm s (s.coolElems h) :=
  State.forElems_calm (fun e s => .modElem fun x hx => by
    obtain heq | ⟨hs, heq⟩ := x.seeCold_cases h <;> rw [heq]
    · exact .setElem_self hx
    · exact .setElem_atRest hx (x.toSet_evolves _) (Element.atRest_exposed (.inr hs)) (Element.atRest_exposed (.inl rfl))
        (fun hsafe => hsafe.toSet (.inr hs)) (fun hfree => by simp [hs] at hfree) fun _ => ⟨rfl, rfl, rfl⟩) s allElems

/-- A confirmed claim (R11, R102). -/
theorem State.confirm_calm (h : Handle) (e : ElemNo) (s : State) : Calm s (s.confirm h e) := by
  unfold State.confirm
  split
  · exact .refl s
  next x hx =>
    split
    next hc =>
      have hs := Element.claimedFor_state hc
      have hexposed : x.exposed = false := Element.not_exposed_of_state (by simp [hs]) (by simp [hs])
      dsimp only
      split
      · exact .setElem_unexposed hx (Element.Evolves.trans (y := { x with owner := x.owner.map Owner.confirm }) (.of_eq rfl)
          (Element.toSet_evolves _ _)) (Element.atRest_claimed hs) (Element.atRest_exposed (.inl rfl))
          (fun hsafe => hsafe.confirmSet hs) (fun hfree => by simp [hs] at hfree) hexposed
      · split
        · exact .requeue hx (.of_eq (by rfl)) (Element.atRest_claimed hs) (by simp [hs]) hexposed (.inl rfl)
            (fun hsafe => hsafe.confirmWaiting hs) _ _
        next hnone =>
          refine (WorksAt.setElem_of_not_lawAt hx (.of_eq (by rfl)) fun hs' => ?_).calm_of_unexposed hx hexposed
          obtain ⟨t, ht⟩ := Option.isSome_iff_exists.1 ((hs'.state x hx).hasTarget (.inl hs))
          obtain ⟨o, ho⟩ := Option.isSome_iff_exists.1 ((hs'.state x hx).owned (.inl hs))
          exact hnone t o ht ho
    next => exact .refl s

/-! ### COLD steps (R108) -/

theorem State.stepElem_worksAt (hx : s.elem e = some x) (h : Handle) (k : HopNo) (t : Throw) :
    WorksAt e s (s.stepElem h k t e x) := by
  have hstep : x.state = .set ∨ x.state = .live → WorksAt e s (if x.throws ≤ t.val then
      s.hopstat h (hopBit k) .refused .badThrow false
      else if x.commanded = some t then s.hopstat h (hopBit k) .ready .none x.wearWarning
      else (s.setElem e { x with state := .waiting, target := some t, stepTarget := true, retry := false }).queueMove
        e t ((x.owner.map (·.lane)).getD 7)) := fun hs => by
    split
    · exact (s.hopstat_arbSame _ _ _ _ _).worksAt e
    · split
      · exact (s.hopstat_arbSame _ _ _ _ _).worksAt e
      · exact .requeue hx (.of_eq (by rfl)) (Element.atRest_exposed hs) (by rcases hs with hs | hs <;> simp [hs]) (.inl rfl)
          (fun hsafe => hsafe.stepTo hs t) _ _
  unfold State.stepElem
  split
  next hs => exact hstep (.inl hs)
  next hs => exact hstep (.inr hs)
  case h_8 | h_9 => exact .refl e s
  all_goals exact (s.hopstat_arbSame _ _ _ _ _).worksAt e

/-! ### CLEARFAULT (R20) -/

theorem Element.clearFault_evolves (cfg : ImageConfig) (x : Element) : x.Evolves cfg x.clearFault := by
  unfold Element.clearFault
  dsimp only
  split
  · exact (Element.setHalf_evolves cfg (x.halfFrom_cases x.sensed)).trans (.of_eq_run rfl (.inr (Nat.zero_le _)))
  · exact .of_eq rfl

theorem State.clearFault_calm (s : State) (e : ElemNo) : Calm s (s.modElem e Element.clearFault) := by
  refine .modElem fun x hx => ?_
  have hgrow := x.clearFault_evolves s.config
  by_cases hs : x.state = .fault ∧ x.owner.isNone
  · have heq : x.clearFault = { ({ x with faultLatch := false } : Element).toFree with
        commanded := x.sensed.valid, half := x.halfFrom x.sensed } := if_pos hs
    rw [heq] at hgrow ⊢
    exact .setElem_unexposed hx hgrow (Element.atRest_fault hs.1) (Element.atRest_free rfl)
      (fun _ => (Element.toFree_stateSafe { x with faultLatch := false }).of_eq rfl) (fun _ _ => rfl)
      (Element.not_exposed_of_state (by simp [hs.1]) (by simp [hs.1]))
  · have heq : x.clearFault = { x with faultLatch := false } := if_neg hs
    rw [heq]
    exact .setElem_sameState hx (.of_eq rfl) rfl rfl (fun hsafe => hsafe.of_eq rfl) fun _ _ => ⟨rfl, rfl⟩

/-! ### The group read (section 5) -/

theorem State.storeSensed_calm (s : State) (p : ElemNo × ThrowSet) : Calm s (s.storeSensed p) :=
  .modElem fun x hx => .setElem_sameState (y := { x with sensed := sensedOf x.throws p.2 }) hx (.of_eq rfl) rfl rfl
    (fun hsafe => hsafe.of_eq rfl) fun _ _ => ⟨rfl, rfl⟩

theorem State.reportSet_arbSame (s : State) (o : Owner) (step w : Bool) : ArbSame s (s.reportSet o step w) := by
  unfold State.reportSet
  split
  · split
    · exact s.hopstat_arbSame _ _ _ _ _
    · split
      · exact s.hopstat_arbSame _ _ _ _ _
      · exact .refl s
  · exact .refl s

theorem State.judgeVerify_worksAt (hx : s.elem e = some x) (hs : x.state = .verifying) :
    WorksAt e s (s.judgeVerify e x) := by
  have hrest := Element.atRest_verifying hs
  have hfree : ∀ y : Element, x.state = .free → s.nodeState = .seeding → y.state = .free := fun _ h => by
    rw [hs] at h; cases h
  have hset : WorksAt e s (s.setElem e x.toSet) := .setElem_atRest hx (x.toSet_evolves _) hrest
    (Element.atRest_exposed (.inl rfl)) (fun hsafe => hsafe.toSet (.inl hs)) (hfree _)
  have hstuck : ∀ h, WorksAt e s ((s.setElem e x.toStuck).capture .stuck (some e) h) := fun h =>
    (WorksAt.setElem_atRest hx (x.toStuck_evolves _) hrest (Element.atRest_fault rfl)
      (fun hsafe => hsafe.toStuck (by simp [hs]) (by simp [hs])) (hfree _)).trans_same (State.capture_arbSame _ _ _ _)
  unfold State.judgeVerify
  split
  · dsimp only
    split
    · exact hset.trans_same (State.reportSet_arbSame _ _ _ _)
    · exact hset
  · split
    · dsimp only
      split
      · split
        · exact (hstuck _).trans_same (State.hopstat_arbSame _ _ _ _ _ _)
        · exact hstuck _
      · exact hstuck _
    · have hgrow : x.Evolves s.config { x with state := .waiting, retry := true, half := x.halfUnknown } :=
        (Element.setHalf_evolves _ x.halfUnknown_cases).trans (.of_eq rfl)
      dsimp only
      split
      · exact .requeue hx hgrow hrest (by simp [hs]) (.inl rfl) (fun hsafe => hsafe.retryVerify hs _) _ _
      next hnone =>
        refine .setElem_of_not_lawAt hx hgrow fun hs' => ?_
        have := (hs'.state x hx).hasTarget (by simp [hs])
        rw [hnone] at this; cases this

theorem State.judgeReturn_worksAt (hx : s.elem e = some x) (hs : x.state = .returning) (hdue : x.verifyDue = true) :
    WorksAt e s (s.judgeReturn e x) := by
  have hrest := Element.atRest_due hs hdue
  have hfree : ∀ y : Element, x.state = .free → s.nodeState = .seeding → y.state = .free := fun _ h => by
    rw [hs] at h; cases h
  unfold State.judgeReturn
  split
  · exact .setElem_atRest hx (x.toFree_evolves _) hrest (Element.atRest_free rfl) (fun _ => x.toFree_stateSafe) (hfree _)
  · split
    · exact (WorksAt.setElem_atRest hx (x.toStuck_evolves _) hrest (Element.atRest_fault rfl)
        (fun hsafe => hsafe.toStuck (by simp [hs]) (by simp [hs])) (hfree _)).trans_same (State.capture_arbSame _ _ _ _)
    · have hgrow : x.Evolves s.config { x with retry := true, half := x.halfUnknown, verifyDue := false } :=
        (Element.setHalf_evolves _ x.halfUnknown_cases).trans (.of_eq rfl)
      dsimp only
      split
      · exact .requeue hx hgrow hrest (by simp [hs]) (.inr ⟨hs, rfl⟩) (fun hsafe => hsafe.retryReturn hs _) _ _
      next hnone =>
        refine .setElem_of_not_lawAt hx hgrow fun hs' => ?_
        have := (hs'.state x hx).hasTarget (by simp [hs])
        rw [hnone] at this; cases this

theorem State.queueBreak_arbSame (s : State) (h : Handle) (m : HopMask) : ArbSame s (s.queueBreak h m) := by
  unfold State.queueBreak
  split
  · exact .refl s
  · exact ArbSame.trans (t := { s with breaksOut := s.breaksOut ++ [h] }) (.of_eq rfl) (State.enqueue_arbSame _ _)

/-- After its element's drop to FAULT, a drop-out touches the transmit side only (R64). -/
theorem State.dropOut_arbSame (s : State) (e : ElemNo) (x : Element) :
    ArbSame (s.setElem e x.toFault) (s.dropOut e x) := by
  have hcap := State.capture_arbSame (s.setElem e x.toFault) .dropOut (some e) (x.owner.map (·.handle))
  unfold State.dropOut
  dsimp only
  split
  · split
    · exact hcap.trans (State.queueBreak_arbSame _ _ _)
    · exact hcap
  · exact hcap

theorem State.dropOut_worksAt (hx : s.elem e = some x) (hs : x.state = .set ∨ x.state = .live) :
    WorksAt e s (s.dropOut e x) :=
  (WorksAt.setElem_atRest hx (x.toFault_evolves _) (Element.atRest_exposed hs) (Element.atRest_fault rfl)
    (fun hsafe => hsafe.toFault (by rcases hs with hs | hs <;> simp [hs]) (by rcases hs with hs | hs <;> simp [hs]))
    fun hfree => by rcases hs with hs | hs <;> simp [hs] at hfree).trans_same (s.dropOut_arbSame e x)

/-- A match, or a first mismatch, of an exposed element (R63). -/
theorem WorksAt.setRun (hx : s.elem e = some x) (hs : x.state = .set ∨ x.state = .live) {n : Nat} (hn : n ≤ 1) :
    WorksAt e s (s.setElem e { x with mismatchRun := n }) :=
  .setElem_sameState hx (.of_eq_run rfl (.inr hn)) rfl rfl fun hsafe => hsafe.setRun hs n

theorem State.judgeExposed_worksAt (hx : s.elem e = some x) (hs : x.state = .set ∨ x.state = .live) :
    WorksAt e s (s.judgeExposed e x) := by
  unfold State.judgeExposed
  split
  · exact .setRun hx hs (Nat.zero_le 1)
  · split
    · exact .setRun hx hs (Nat.le_refl 1)
    · exact State.dropOut_worksAt hx hs

end

/-! Which judgement an element's state asks for (R58). -/

section
variable {s : State} {e : ElemNo} {x : Element} (hx : s.elem e = some x)
include hx

theorem State.judge_verifying (hs : x.state = .verifying) : s.judge e = s.judgeVerify e x := by
  simp [State.judge, hx, hs]

theorem State.judge_returning (hs : x.state = .returning) (hdue : x.verifyDue = true) :
    s.judge e = s.judgeReturn e x := by simp [State.judge, hx, hs, hdue]

theorem State.judge_exposed (hs : x.state = .set ∨ x.state = .live) : s.judge e = s.judgeExposed e x := by
  rcases hs with hs | hs <;> simp [State.judge, hx, hs]

end

/-- A read does not judge an element that is in no such state. -/
theorem State.judge_unjudged {s : State} {e : ElemNo} (h : ∀ x, s.elem e = some x → x.judged = false) :
    s.judge e = s := by
  unfold State.judge
  split
  next => rfl
  next x hx =>
    have hj := h x hx
    cases hs : x.state <;> simp_all [Element.judged]

theorem State.judge_worksAt (e : ElemNo) (s : State) : WorksAt e s (s.judge e) := by
  by_cases hj : ∀ x, s.elem e = some x → x.judged = false
  · rw [State.judge_unjudged hj]
    exact .refl e s
  · simp only [not_forall, Bool.not_eq_false] at hj
    obtain ⟨x, hx, hj⟩ := hj
    unfold Element.judged at hj
    split at hj
    next hs => rw [State.judge_verifying hx hs]; exact State.judgeVerify_worksAt hx hs
    next hs => rw [State.judge_exposed hx (.inl hs)]; exact State.judgeExposed_worksAt hx (.inl hs)
    next hs => rw [State.judge_exposed hx (.inr hs)]; exact State.judgeExposed_worksAt hx (.inr hs)
    next hs => rw [State.judge_returning hx hs hj]; exact State.judgeReturn_worksAt hx hs hj
    all_goals cases hj

end Sys2Proof.Machine
end

section
/-!
PROOFS. What each command keeps of the arbiter, of the records and of the exposed elements: the commands that leave
every exposed element as it is.
-/

namespace Sys2Proof.Machine

/-! ### The expiry of D (R32) -/

/-- The service record of an element goes. -/
def State.endService (s : State) (e : ElemNo) : State :=
  { s with services := s.services.filter (fun v => v.elem != e) }

theorem State.endService_servicesOf (s : State) (e f : ElemNo) :
    (s.endService e).servicesOf f = if f = e then [] else s.servicesOf f := by
  simp only [State.servicesOf, State.endService, List.filter_filter]
  split
  next h => subst h; simp
  next h =>
    refine List.filter_congr fun v _ => ?_
    by_cases hv : v.elem = f
    · simp [hv, h]
    · simp [hv]

theorem State.moveEnded_of_moving {s : State} {e : ElemNo} {x : Element} (hx : s.elem e = some x)
    (hs : x.state = .moving) : s.moveEnded e = if x.releaseOnCompletion then s.releaseFromStep2 e x
      else s.setElem e { x with state := .verifying } := by
  simp [State.moveEnded, hx, hs]

theorem State.moveEnded_of_returning {s : State} {e : ElemNo} {x : Element} (hx : s.elem e = some x)
    (hs : x.state = .returning) : s.moveEnded e = s.setElem e { x with verifyDue := true } := by
  simp [State.moveEnded, hx, hs]

theorem State.moveEnded_of_not {s : State} {e : ElemNo} (h : ∀ x, s.elem e = some x → x.state ≠ .moving ∧ x.state ≠ .returning) :
    s.moveEnded e = s := by
  unfold State.moveEnded
  split
  next => rfl
  next x hx =>
    obtain ⟨hm, hr⟩ := h x hx
    split <;> simp_all

theorem State.moveEnded_worksAt {s : State} {e : ElemNo} (hserve : s.hasService e = true)
    (hpulses : ∀ c, (s.channel c).pulses e = false) : WorksAt e s ((s.endService e).moveEnded e) := by
  have hquiet : Quiets s (s.endService e) := .of_frame ⟨rfl, rfl, rfl, rfl, rfl⟩ rfl (fun _ => .rfl) fun _ => id
  have hev : Evolves s (s.endService e) := ⟨rfl, fun _ => Option.Rel.evolves_refl _ _, fun _ h => absurd rfl h, id⟩
  have hframe : ArbFrame s (s.endService e) := ⟨rfl, rfl, rfl, rfl, rfl⟩
  have hothers : ∀ f, f ≠ e → State.Spares f s (s.endService e) := fun f hf =>
    .same rfl rfl rfl (by rw [State.endService_servicesOf, if_neg hf]) fun _ => rfl
  have hbare : s.lawAt e → (s.endService e).bareAt e := fun hs => by
    obtain ⟨_, _, hentries, -⟩ := hs.place.of_service hserve
    exact ⟨hentries, by rw [State.endService_servicesOf, if_pos rfl], hpulses⟩
  cases hx : s.elem e with
  | none =>
    rw [State.moveEnded_of_not fun x h => by cases hx.symm.trans h]
    refine ⟨hev, hquiet, hframe, hothers, fun hs => ?_⟩
    obtain ⟨_, x, -, -, h, -⟩ := hs.place.of_service hserve
    cases hx.symm.trans h
  | some x =>
    have hx' : (s.endService e).elem e = some x := hx
    by_cases hm : x.state = .moving
    · rw [State.moveEnded_of_moving hx' hm]
      split
      next hr =>
        exact ⟨hev.trans (State.releaseFromStep2_evolves hx' (.refl _ x)), hquiet.trans (State.releaseFromStep2_quiets _ e x),
          hframe.trans ((s.endService e).releaseFromStep2_touches e x).frame,
          fun f hf => (hothers f hf).trans hframe (State.releaseFromStep2_spares _ hf x),
          fun hs => State.releaseFromStep2_lawAt (hbare hs) ((hs.state x hx).released.1 hr).2 (hs.not_starting hx)
            (hs.not_seeding hx (by simp [hm]))⟩
      next hr =>
        refine ⟨hev.trans (State.setElem_evolves hx' (.of_eq rfl)), hquiet.trans (State.setElem_quiets _ e _),
          hframe.trans ((s.endService e).setElem_arb e _).frame,
          fun f hf => (hothers f hf).trans hframe (State.setElem_spares _ hf),
          fun hs => State.setElem_lawAt_of_bare (hbare hs) (Element.atRest_verifying rfl)
            ((hs.state x hx).toVerifying hm (Bool.eq_false_iff.2 hr)) (hs.not_starting hx)
            fun hn => absurd hn (hs.not_seeding hx (by simp [hm]))⟩
    · by_cases hret : x.state = .returning
      · rw [State.moveEnded_of_returning hx' hret]
        exact ⟨hev.trans (State.setElem_evolves hx' (.of_eq rfl)), hquiet.trans (State.setElem_quiets _ e _),
          hframe.trans ((s.endService e).setElem_arb e _).frame,
          fun f hf => (hothers f hf).trans hframe (State.setElem_spares _ hf),
          fun hs => State.setElem_lawAt_of_bare (hbare hs) (Element.atRest_due hret rfl)
            ((hs.state x hx).toDue hret) (hs.not_starting hx)
            fun hn => absurd hn (hs.not_seeding hx (by simp [hret]))⟩
      · rw [State.moveEnded_of_not fun y hy => by cases hx'.symm.trans hy; exact ⟨hm, hret⟩]
        refine ⟨hev, hquiet, hframe, hothers, fun hs => ?_⟩
        obtain ⟨_, y, -, -, hy, hmove⟩ := hs.place.of_service hserve
        cases hx.symm.trans hy
        rcases hmove with h | ⟨h, -⟩
        · exact absurd h hm
        · exact absurd h hret

theorem Element.mayMove.not_exposed {x : Element} (h : x.mayMove) : x.exposed = false := by
  rcases h with h | ⟨h, -⟩ <;> exact Element.not_exposed_of_state (by simp [h]) (by simp [h])

theorem State.elapse_hasService (s : State) (r : Nat) (e : ElemNo) : (s.elapse r).hasService e = s.hasService e := by
  simp [State.hasService, State.elapse, List.any_map, Function.comp_def]

/-- An element with a move in service is not exposed (R12). -/
theorem State.lawAt.not_exposed_of_service {s : State} {e : ElemNo} (hs : s.lawAt e) (he : s.hasService e = true) :
    ∀ x, s.elem e = some x → x.exposed = false := fun x hx => by
  obtain ⟨_, y, -, -, hy, hmove⟩ := hs.place.of_service he
  cases hx.symm.trans hy
  exact hmove.not_exposed

theorem execMoveDExpires_calm (e : ElemNo) (s : State) : Leads Calm s (execMoveDExpires e s) := by
  unfold execMoveDExpires
  split
  next v hv =>
    split
    next => exact .next (.refl s)
    next hnone =>
      obtain rfl : v.elem = e := by simpa using List.find?_some hv
      have hserve : (s.elapse v.left).hasService v.elem = true := by
        rw [State.elapse_hasService]
        exact State.hasService_iff.2 ⟨v, List.mem_of_find?_eq_some hv, rfl⟩
      have hpulses : ∀ c, ((s.elapse v.left).channel c).pulses v.elem = false := fun c => by
        rw [State.channel_elapse, Channel.elapse_pulses]
        simp only [List.any_eq_true, not_exists, not_and, Bool.not_eq_true] at hnone
        exact hnone c (mem_allChannels c)
      refine .next ((s.elapse_calm v.left).trans ((State.moveEnded_worksAt hserve hpulses).calm fun hs x hx hexp => ?_))
      rw [hs.not_exposed_of_service hserve x hx] at hexp
      cases hexp
  next => exact .next (.refl s)

/-! ### Channels -/

/-- The next phase of a channel's pulses (R29). -/
theorem State.nextPhase_calm {s : State} {ch : ChannelNo} {e : ElemNo} {t : Throw} {k : Lane} {n left : Nat}
    {phase : PulsePhase} (h : s.channel ch = .pulsing e t k n phase left) (r : Nat) (phase' : PulsePhase) (left' : Nat) :
    Calm s ((s.elapse r).setChannel ch (.pulsing e t k n phase' left')) :=
  (s.elapse_calm r).trans (State.setChannel_calm nofun fun f hf => by
    rw [State.channel_elapse, h]
    exact hf)

theorem execCascadeFrontPulseEnd_calm (ch : ChannelNo) (s : State) : Leads Calm s (execCascadeFrontPulseEnd ch s) := by
  unfold execCascadeFrontPulseEnd
  split
  next h => exact .next (State.nextPhase_calm h _ _ _)
  next => exact .next (.refl s)

theorem execCascadeGapEnd_calm (ch : ChannelNo) (s : State) : Leads Calm s (execCascadeGapEnd ch s) := by
  unfold execCascadeGapEnd
  split
  next h => exact .next (State.nextPhase_calm h _ _ _)
  next => exact .next (.refl s)

theorem Element.pulsesEnded_evolves (cfg : ImageConfig) (t : Throw) (n : Nat) (x : Element) :
    x.Evolves cfg (x.pulsesEnded cfg t n) := by
  unfold Element.pulsesEnded
  split
  · refine (Element.setHalf_evolves cfg ?_).trans (Element.addWear_evolves cfg n _)
    split
    next hc => exact .inr ⟨hc, halfOf_ne_absent _ _⟩
    next => exact .inl rfl
  next hc => exact (Element.setHold_evolves cfg (.inl hc)).trans (Element.addWear_evolves cfg 1 _)
  · exact .refl cfg x

theorem Element.pulsesEnded_same (cfg : ImageConfig) (t : Throw) (n : Nat) (x : Element) :
    (x.pulsesEnded cfg t n).state = x.state ∧ (x.pulsesEnded cfg t n).verifyDue = x.verifyDue ∧
      (x.stateSafe → (x.pulsesEnded cfg t n).stateSafe) := by
  unfold Element.pulsesEnded Element.addWear
  split <;> exact ⟨rfl, rfl, fun h => h.of_eq rfl⟩

/-- The end of a channel's pulses for an element whose move is in service (R30, R39). -/
theorem State.endPulsing_calm {s : State} {ch : ChannelNo} {e : ElemNo} (hp : (s.channel ch).pulses e = true)
    (t : Throw) (k : Lane) (n : Nat) : Calm s (s.endPulsing ch e t k n) := by
  have hmod : Calm s (s.modElem e (Element.pulsesEnded s.config t n)) := .modElem fun x hx => by
    obtain ⟨hstate, hdue, hsafe⟩ := x.pulsesEnded_same s.config t n
    refine .setElem_sameState hx (x.pulsesEnded_evolves _ _ _) hstate hdue hsafe fun hs hexp => ?_
    rw [hs.not_exposed_of_service (hs.place.pulses hp) x hx] at hexp
    cases hexp
  have hend := hmod.trans (State.setChannel_calm (ch := ch) (c := .recovering Config.recoveryUnits) nofun
    (fun f hf => by cases hf))
  unfold State.endPulsing
  dsimp only
  split
  · exact hend.trans (ArbSame.calm (.of_eq rfl))
  · exact hend

theorem execPulsingEnd_calm (ch : ChannelNo) (s : State) : Leads Calm s (execPulsingEnd ch s) := by
  unfold execPulsingEnd
  split
  next h =>
    refine .next ((s.elapse_calm _).trans (State.endPulsing_calm ?_ _ _ _))
    rw [State.channel_elapse, h]
    simp [Channel.elapse, Channel.pulses]
  next => exact .next (.refl s)

/-- After a change that may free a grant, but starts nothing, the grants are made (R41). -/
theorem State.grants_calm_of {s u : State} (hev : Evolves s u) (hlawful : s.lawful → u.lawful)
    (hknown : s.known → u.known) (hstart : ¬s.startable → ¬u.startable)
    (hstays : ∀ e, State.Stays e s u) : Calm s u.grants := by
  have hgrants := u.grants_starts
  exact ⟨⟨hev.trans hgrants.evolves, ⟨fun hk => hgrants.known (hknown hk), fun hk hq =>
    ⟨State.grants_not_grantable (hknown hk), hgrants.not_startable (hstart hq.2)⟩⟩, fun hs => hgrants.lawful (hlawful hs)⟩,
    fun hs e => (hstays e).trans ((hgrants.spares e).stays (hlawful hs e).place)⟩

theorem execChannelRecoveryEnd_calm (ch : ChannelNo) (s : State) : Leads Calm s (execChannelRecoveryEnd ch s) := by
  unfold execChannelRecoveryEnd
  split
  next left _ =>
    refine .next ((s.elapse_calm left).trans (State.grants_calm_of (State.setChannel_evolves _ ch .idle)
      (State.setChannel_lawful fun f hf => by cases hf) id id fun e => .of_eq rfl rfl))
  next => exact .next (.refl s)

theorem execCoilokRise_calm (s : State) : Leads Calm s (execCoilokRise s) := by
  refine .next (State.grants_calm_of ⟨rfl, fun _ => Option.Rel.evolves_refl _ _, fun _ h => absurd rfl h, id⟩
    (fun hs e => ?_) id id fun e => .of_eq rfl rfl)
  exact State.Spares.lawAt_of (.of_eq (s := s) (t := { s with coilOk := true }) e rfl rfl rfl rfl rfl) rfl id (hs e)

theorem execCoilokFall_calm (s : State) : Leads Calm s (execCoilokFall s) := by
  have hfall : Calm s { s with coilOk := false } :=
    ⟨⟨⟨rfl, fun _ => Option.Rel.evolves_refl _ _, fun _ h => absurd rfl h, id⟩, ⟨id, fun _ hq =>
      ⟨fun hg => Bool.noConfusion hg.2.1, hq.2⟩⟩,
      fun hs e => State.Spares.lawAt_of (.of_eq (s := s) (t := { s with coilOk := false }) e rfl rfl rfl rfl rfl) rfl
        id (hs e)⟩, fun _ e => .of_eq rfl rfl⟩
  unfold execCoilokFall
  split
  · exact .next_ite (fun _ => hfall.trans (State.capture_arbSame _ _ _ _).calm) fun _ => hfall
  · exact .next (.refl s)

/-! ### Timers, triggers and the quench line -/

theorem execTentativeClaimTimerExpiry_calm (h : Handle) (s : State) :
    Leads Calm s (execTentativeClaimTimerExpiry h s) := by
  unfold execTentativeClaimTimerExpiry
  split
  next left _ =>
    refine .next ((s.elapse_calm left).trans ?_)
    have hdrop := State.dropClaims_calm (s.elapse left) h
    unfold State.expireClaims
    dsimp only
    split
    · exact hdrop.trans (State.hopstat_arbSame _ _ _ _ _ _).calm
    · exact hdrop
  next => exact .next (.refl s)

theorem execSetupStepTimerExpiry_calm (g : Gate) (s : State) : Leads Calm s (execSetupStepTimerExpiry g s) := by
  unfold execSetupStepTimerExpiry
  split
  · exact .next ((s.elapse_calm _).trans (State.slotRelease_arbSame _ _ _).calm)
  · exact .next ((s.elapse_calm _).trans (State.slotRelease_arbSame _ _ _).calm)
  · exact .next (.refl s)

theorem execQuenchTimerExpiryRelease_calm (g : Gate) (s : State) :
    Leads Calm s (execQuenchTimerExpiryRelease g s) := by
  unfold execQuenchTimerExpiryRelease
  dsimp only
  split
  · exact .next ((s.elapse_calm _).trans (State.slotRelease_arbSame _ _ _).calm)
  · exact .next (.refl s)

theorem execQuenchTimerExpiryStep_calm (g : Gate) (s : State) : Leads Calm s (execQuenchTimerExpiryStep g s) := by
  unfold execQuenchTimerExpiryStep
  dsimp only
  split
  next left t _ _ _ _ _ =>
    exact .next ((s.elapse_calm left).trans
      ((State.setSlot_arbSame (s.elapse left) g _).trans (State.enqueue_arbSame _ _)).calm)
  next => exact .next (.refl s)

theorem execResumeTimerExpiry_calm (g : Gate) (s : State) : Leads Calm s (execResumeTimerExpiry g s) := by
  unfold execResumeTimerExpiry
  dsimp only
  split
  · exact .next ((s.elapse_calm _).trans (State.openGate_arbSame _ g).calm)
  · exact .next (.refl s)

theorem execTriggerEdge_calm (g : Gate) (s : State) : Leads Calm s (execTriggerEdge g s) := by
  unfold execTriggerEdge
  split
  · exact .next (s.trigger_arbSame g).calm
  · exact .next (.refl s)

theorem execQuenchAssertionSensed_calm (s : State) : Leads Calm s (execQuenchAssertionSensed s) := by
  have hsensed : ArbSame s { s with quenchSensed := true } := .of_eq rfl
  unfold execQuenchAssertionSensed
  split
  · exact .next (.refl s)
  · exact .next_ite (fun _ => (hsensed.trans (ArbSame.foldl (fun s g => s.slotAsserted_arbSame g) _ _)).calm)
      fun _ => hsensed.calm

theorem execQuenchReleaseSensed_calm (s : State) : Leads Calm s (execQuenchReleaseSensed s) := by
  unfold execQuenchReleaseSensed
  split
  · exact .next_ite (fun _ => ArbSame.calm (.of_eq rfl)) fun _ => ArbSame.calm (.of_eq rfl)
  · exact .next (.refl s)

/-! ### The line -/

theorem execResetHigh_calm (straps : BitVec 6) (s : State) : Leads Calm s (execResetHigh straps s) := by
  unfold execResetHigh
  split
  · exact .next (ArbSame.calm (.of_eq rfl))
  · exact .next (.refl s)

theorem execLineIdleResync_calm (s : State) : Leads Calm s (execLineIdleResync s) := by
  unfold execLineIdleResync
  split
  · exact .next (ArbSame.calm (.of_eq rfl))
  · exact .next (.refl s)

theorem execTxAttemptStart_calm (s : State) : Leads Calm s (execTxAttemptStart s) := by
  unfold execTxAttemptStart
  split
  · split
    · exact .next (ArbSame.calm (.of_eq rfl))
    · exact .next (.refl s)
  · exact .next (.refl s)

theorem execArbitrationLost_calm (s : State) : Leads Calm s (execArbitrationLost s) := by
  unfold execArbitrationLost
  split
  · exact .next s.keepPlace_arbSame.calm
  all_goals exact .next (.refl s)

theorem execArbitrationWon_calm (s : State) : Leads Calm s (execArbitrationWon s) := by
  unfold execArbitrationWon
  split
  · exact .next (s.winAttempt_arbSame _).calm
  all_goals exact .next (.refl s)

/-- The start of a warm restart leaves every element and every move as it is (R158). -/
theorem State.beginRestart_calm (s : State) : Calm s s.beginRestart := by
  obtain ⟨q, r, heq⟩ := s.beginRestart_eq
  have hnode : s.beginRestart.nodeState = .restarting := by rw [heq]
  have hrestart : s.beginRestart.restart ≠ none := by rw [heq]; nofun
  have hspares : ∀ e, State.Spares e s s.beginRestart := fun e => by rw [heq]; exact .of_eq e rfl rfl rfl rfl rfl
  have hquiet : s.beginRestart.quiet := by
    rw [State.quiet, State.grantable, State.startable, hnode]
    simp
  refine ⟨⟨?_, ⟨?_, fun _ _ => hquiet⟩, fun hs e => ?_⟩, fun hs e => (hspares e).stays (hs e).place⟩
  · rw [heq]
    exact ⟨rfl, fun _ => Option.Rel.evolves_refl _ _, fun _ h => absurd rfl h, nofun⟩
  · rw [heq]
    exact id
  · exact ⟨((hspares e).place (hs e).place).mono fun h => absurd h hrestart, (hspares e).stateSafe (hs e).state,
      (fun hn => nomatch hnode.symm.trans hn), (fun hn => nomatch hnode.symm.trans hn)⟩

theorem State.overrun_calm (s : State) : Calm s (if s.nodeState = .running then s.beginRestart else s) := by
  split
  next => exact s.beginRestart_calm
  next => exact .refl s

theorem State.receive_calm (s : State) (rx : RxFrame) : Calm s (s.receive rx) := by
  have hown : ArbSame s (if rx.sender = s.address then s.accountOwn RestartSeq.lose rx.frame else s) := by
    split
    · exact s.accountOwn_arbSame _ _
    · exact .refl s
  unfold State.receive
  split
  · exact ArbSame.calm (.of_eq rfl)
  · exact (hown.trans (State.capture_arbSame _ .rxOverrun none none)).calm.trans (State.overrun_calm _)

theorem State.frameCompletes_calm (s : State) (f : RawFrame) (flagged : Bool) : Calm s (s.frameCompletes f flagged) := by
  unfold State.frameCompletes
  split
  · exact ArbSame.calm (.of_eq rfl)
  · split
    · exact ArbSame.calm (.of_eq rfl)
    · split
      · exact s.receive_calm _
      · exact ArbSame.calm (.of_eq rfl)

theorem State.ownCompletes_calm (s : State) (f : Frame) (flagged : Bool) : Calm s (s.ownCompletes f flagged) := by
  unfold State.ownCompletes
  split
  · exact ArbSame.calm (s.keepPlace_arbSame.trans (.of_eq rfl))
  · exact Calm.trans (t := s.leaveQueue) (ArbSame.calm (.of_eq rfl)) (State.receive_calm _ _)

theorem execFrameEnd_calm (frame : Option RawFrame) (flagged : Bool) (s : State) :
    Leads Calm s (execFrameEnd frame flagged s) := by
  unfold execFrameEnd
  split
  · exact .next (s.ownCompletes_calm _ _)
  · split
    · exact .next (s.frameCompletes_calm _ _)
    · exact .next (.refl s)
  · exact .next (.refl s)

theorem execOverLongFrame_calm (s : State) : Leads Calm s (execOverLongFrame s) := by
  unfold execOverLongFrame
  split
  · exact .next (ArbSame.calm (.of_eq rfl))
  · exact .next (.refl s)

end Sys2Proof.Machine
end

section
/-!
PROOFS. What each command keeps of the arbiter, of the records and of the exposed elements: the frames seen, the group
read, the start and the end of a warm restart, and the image.
-/

namespace Sys2Proof.Machine

/-! ### Frames that leave every exposed element as it is -/

theorem State.hopReason_eq_none {s : State} {h : Handle} {wf : Bool} {mine : HopList}
    (hr : s.hopReason h wf mine = none) : wf = true ∧ repeatsElement mine = false ∧
      (∀ p ∈ mine, p.2.throw.val < 12) ∧ s.holds h = false ∧
      ∀ p ∈ mine, ∃ x, s.elem p.2.element = some x ∧ x.state = .free ∧ p.2.throw.val < x.throws := by
  unfold State.hopReason State.anyHop at hr
  split_ifs at hr with hwf hmissing hthrow hholds hfault hbusy
  simp only [not_or, Bool.not_eq_true, Bool.not_eq_false, List.any_eq_false, decide_eq_true_eq, not_le] at hwf hmissing hthrow hbusy hholds
  obtain ⟨hwf, hrepeats, hrange⟩ := hwf
  refine ⟨hwf, hrepeats, hrange, hholds, fun p hp => ?_⟩
  obtain ⟨x, hx⟩ := Option.isSome_iff_exists.1 (by simpa using hmissing p hp)
  have hfree := hbusy p hp
  have hlt := hthrow p hp
  rw [hx] at hfree hlt
  exact ⟨x, hx, by simpa using hfree, by simpa using hlt⟩

/-- Claims of FREE elements, one after another (R98). -/
theorem State.claims_calm {o : HopNo × Hop → Owner} (ho : ∀ p, (o p).tentative = true ∧ (o p).claimTimer.isSome = true) :
    ∀ (l : HopList) {s : State}, s.nodeState = .running →
      (∀ p ∈ l, ∀ x, s.elem p.2.element = some x → x.state = .free ∨ x.state = .claimed) →
      Calm s (l.foldl (fun s p => s.modElem p.2.element (Element.claim (o p) p.2.throw)) s)
  | [], s, _, _ => .refl s
  | p :: l, s, hn, hl => by
    have hone : Calm s (s.modElem p.2.element (Element.claim (o p) p.2.throw)) := .modElem fun x hx =>
      .claim hx (hl p List.mem_cons_self x hx) hn (ho p) _
    refine hone.trans (State.claims_calm ho l ((s.modElem_arb _ _).nodeState.trans hn) fun q hq x hx => ?_)
    rw [State.elem_modElem] at hx
    split at hx
    next he =>
      obtain ⟨y, _, rfl⟩ := Option.map_eq_some_iff.1 hx
      exact .inr rfl
    next => exact hl q (List.mem_cons_of_mem _ hq) x hx

theorem State.hopRole_calm (s : State) (h : Handle) (lane : Lane) (r : Resolved) (mine : HopList) :
    Calm s (s.hopRole h lane r mine) := by
  unfold State.hopRole
  split
  next hn =>
    split
    · exact (s.hopstat_arbSame _ _ _ _ _).calm
    next hr =>
      obtain ⟨-, -, -, -, hfree⟩ := State.hopReason_eq_none hr
      refine State.claims_calm (o := fun p => claimOwner h lane (hopMaskOf mine) r.hops.length p.1) (fun p => ⟨rfl, rfl⟩) mine hn fun p hp x hx => .inl ?_
      obtain ⟨y, hy, hstate, -⟩ := hfree p hp
      cases hx.symm.trans hy
      exact hstate
  · exact (s.hopstat_arbSame _ _ _ _ _).calm
  · exact (s.hopstat_arbSame _ _ _ _ _).calm
  all_goals exact .refl s

theorem Calm.hopRole_ite {s u : State} (hu : Calm s u) {b : Bool} {h : Handle} {lane : Lane} {r : Resolved}
    {mine : HopList} : Calm s (if b then u else u.hopRole h lane r mine) := by
  split
  · exact hu
  · exact hu.trans (u.hopRole_calm _ _ _ _)

theorem State.seeRoute_calm (s : State) (sender : Address) (h : Handle) (lane : Lane) (count : Fin 16) (ext : Bool)
    (hops : List Hop) : Calm s (s.seeRoute sender h lane count ext hops) := by
  have hanchor : ArbSame s (if h.anchor = s.address then
      State.anchorRole { s with extTable := (resolveRoute s.extTable sender h count ext hops).table } h
        (resolveRoute s.extTable sender h count ext hops)
      else { s with extTable := (resolveRoute s.extTable sender h count ext hops).table }) := by
    have htable : ArbSame s { s with extTable := (resolveRoute s.extTable sender h count ext hops).table } := .of_eq rfl
    split
    · exact htable.trans (State.anchorRole_arbSame _ _ _)
    · exact htable
  unfold State.seeRoute
  dsimp only
  exact hanchor.calm.hopRole_ite

theorem execFrameSeenRoute_calm (s : State) : Leads Calm s (execFrameSeenRoute s) := by
  unfold execFrameSeenRoute
  split
  · exact .next (s.popFrame_arbSame.calm.trans (State.seeRoute_calm _ _ _ _ _ _ _))
  · exact .next (.refl s)

theorem execFrameSeenRouteExt_calm (s : State) : Leads Calm s (execFrameSeenRouteExt s) := by
  unfold execFrameSeenRouteExt
  split
  · exact .next (ArbSame.calm (.of_eq rfl))
  · exact .next (.refl s)

theorem execFrameSeenAccept_calm (s : State) : Leads Calm s (execFrameSeenAccept s) := by
  unfold execFrameSeenAccept
  split
  next h _ =>
    refine .next_ite (fun _ => s.popFrame_arbSame.calm.trans ?_) fun _ => s.popFrame_arbSame.calm
    have hconfirm := State.forElems_calm (State.confirm_calm h) s.popFrame allElems
    unfold State.seeAccept
    dsimp only
    split
    · exact hconfirm.trans (State.hopstat_arbSame _ _ _ _ _ _).calm
    · exact hconfirm
  next => exact .next (.refl s)

theorem execFrameSeenRefuse_calm (s : State) : Leads Calm s (execFrameSeenRefuse s) := by
  unfold execFrameSeenRefuse
  split
  · exact .next_ite (fun _ => s.popFrame_arbSame.calm.trans (State.dropClaims_calm _ _)) fun _ => s.popFrame_arbSame.calm
  · exact .next (.refl s)

theorem execFrameSeenHopstat_calm (s : State) : Leads Calm s (execFrameSeenHopstat s) := by
  unfold execFrameSeenHopstat
  split
  · exact .next_ite (fun _ => (s.popFrame_arbSame.trans (State.seeHopstat_arbSame _ _ _ _)).calm)
      fun _ => s.popFrame_arbSame.calm
  · exact .next (.refl s)

theorem execFrameSeenHot_calm (s : State) : Leads Calm s (execFrameSeenHot s) := by
  unfold execFrameSeenHot
  split
  · exact .next_ite (fun _ => s.popFrame_arbSame.calm.trans (State.forElems_calm (fun e s => s.seeHot_calm _ e) _ _))
      fun _ => s.popFrame_arbSame.calm
  · exact .next (.refl s)

theorem execFrameSeenBreak_calm (s : State) : Leads Calm s (execFrameSeenBreak s) := by
  unfold execFrameSeenBreak
  split
  next sender h mask reason _ =>
    have hseen : ArbSame s (if sender = s.address then
        s.popFrame.accountOwn RestartSeq.see (.brk h mask reason) else s.popFrame) := by
      split
      · exact s.popFrame_arbSame.trans (State.accountOwn_arbSame _ _ _)
      · exact s.popFrame_arbSame
    exact .next_ite (fun _ => (hseen.trans (State.endPath_arbSame _ _ _)).calm) fun _ => hseen.calm
  next => exact .next (.refl s)

theorem execFrameSeenDrop_calm (s : State) : Leads Calm s (execFrameSeenDrop s) := by
  unfold execFrameSeenDrop
  split
  · exact .next_ite (fun _ => (s.popFrame_arbSame.trans (State.endPath_arbSame _ _ _)).calm)
      fun _ => s.popFrame_arbSame.calm
  · exact .next (.refl s)

theorem execFrameSeenScan_calm (s : State) : Leads Calm s (execFrameSeenScan s) := by
  unfold execFrameSeenScan
  split
  · split
    · refine .next (ArbSame.trans ?_ (State.scanLastHop_arbSame _ _ _)).calm
      split
      · exact s.popFrame_arbSame.trans (State.scanAnchor_arbSame _ _ _ _ _)
      · exact s.popFrame_arbSame
    · exact .next s.popFrame_arbSame.calm
  · exact .next (.refl s)

theorem execFrameSeenAdvance_calm (s : State) : Leads Calm s (execFrameSeenAdvance s) := by
  unfold execFrameSeenAdvance
  split
  · exact .next_ite (fun _ => (s.popFrame_arbSame.trans (State.trigger_arbSame _ _)).calm)
      fun _ => s.popFrame_arbSame.calm
  · exact .next (.refl s)

theorem State.lawful.nodup {s : State} (hs : s.lawful) : (s.moveQueue.map (·.elem)).Nodup :=
  (List.nodup_append.1 hs.one).1

/-- The starts of moves that need no channel. -/
theorem State.startUnheld_evolves {s : State} (hn : s.nodeState ≠ .starting) : Evolves s s.startUnheld := by
  unfold State.startUnheld
  generalize s.moveQueue.filter _ = l
  induction l generalizing s with
  | nil => exact .refl s
  | cons m l ih =>
    exact (State.startMove_evolves hn m none).trans (ih ((s.startMove_touches m none).nodeState ▸ hn))

/-- In a RUNNING node everything that can be started is started (R46, R47). -/
theorem State.startAll_quiet {s : State} (hk : s.known) : s.startUnheld.grants.quiet :=
  ⟨State.grants_not_grantable (State.startUnheld_known hk),
    (State.grants_starts _).not_startable (State.startUnheld_not_startable hk)⟩

theorem State.startAll_starts {s : State} (hn : s.nodeState = .running) (hone : (s.moveQueue.map (·.elem)).Nodup) :
    Starts s s.startUnheld.grants := (State.startUnheld_starts hn hone).trans (State.grants_starts _)

theorem State.setLaneHold_spares (s : State) (mask : LaneMask) (e : ElemNo) :
    State.Spares e s { s with laneHold := mask } := .of_eq e rfl rfl rfl rfl rfl

theorem State.holdLanes_calm {s : State} (hn : s.nodeState = .running) (mask : LaneMask) : Calm s (s.holdLanes mask) := by
  have hspares := s.setLaneHold_spares mask
  have hlawful : s.lawful → State.lawful { s with laneHold := mask } := fun hs e => (hspares e).lawAt_of rfl id (hs e)
  have hstarts : s.lawful → Starts { s with laneHold := mask } (s.holdLanes mask) := fun hs =>
    State.startAll_starts (s := { s with laneHold := mask }) hn (hlawful hs).nodup
  have hev : Evolves s { s with laneHold := mask } :=
    ⟨rfl, fun _ => Option.Rel.evolves_refl _ _, fun _ h => absurd rfl h, id⟩
  have hstart : Evolves { s with laneHold := mask } (State.startUnheld { s with laneHold := mask }) :=
    State.startUnheld_evolves (by rw [hn]; nofun)
  refine ⟨⟨(hev.trans hstart).trans (State.grants_starts _).evolves,
    ⟨fun hk => (State.grants_starts _).known (State.startUnheld_known hk), fun hk _ => State.startAll_quiet hk⟩,
    fun hs => (hstarts hs).lawful (hlawful hs)⟩, fun hs e => ?_⟩
  exact ((hspares e).stays (hs e).place).trans (((hstarts hs).spares e).stays (hlawful hs e).place)

theorem execFrameSeenLanehold_calm (s : State) : Leads Calm s (execFrameSeenLanehold s) := by
  unfold execFrameSeenLanehold
  split
  · exact .next_ite (fun h => s.popFrame_arbSame.calm.trans (State.holdLanes_calm (s := s.popFrame) (State.obeys_iff.1 h).1 _))
      fun _ => s.popFrame_arbSame.calm
  · exact .next (.refl s)

theorem execFrameSeenQuery_calm (s : State) : Leads Calm s (execFrameSeenQuery s) := by
  unfold execFrameSeenQuery
  split
  · exact .next_ite (fun _ => (s.popFrame_arbSame.trans (State.seeQuery_arbSame _ _)).calm) fun _ => s.popFrame_arbSame.calm
  · exact .next (.refl s)

theorem execFrameSeenReport_calm (s : State) : Leads Calm s (execFrameSeenReport s) := by
  unfold execFrameSeenReport
  split
  · exact .next s.popFrame_arbSame.calm
  · exact .next (.refl s)

theorem execFrameSeenNotice_calm (s : State) : Leads Calm s (execFrameSeenNotice s) := by
  unfold execFrameSeenNotice
  split
  · exact .next s.popFrame_arbSame.calm
  · exact .next (.refl s)

theorem State.emptyFault_arbSame (s : State) : ArbSame s { s with fault := .empty } := .of_eq rfl

theorem execFrameSeenClearfault_calm (s : State) : Leads Calm s (execFrameSeenClearfault s) := by
  unfold execFrameSeenClearfault
  split
  · refine .next_ite (fun _ => s.popFrame_arbSame.calm.trans ?_) fun _ => s.popFrame_arbSame.calm
    exact (State.forElems_calm (fun e s => s.clearFault_calm e) _ allElems).trans (State.emptyFault_arbSame _).calm
  · exact .next (.refl s)

theorem execFrameSeenRestart_calm (s : State) : Leads Calm s (execFrameSeenRestart s) := by
  unfold execFrameSeenRestart
  split
  · exact .next_ite (fun _ => s.popFrame_arbSame.calm.trans (State.beginRestart_calm _)) fun _ => s.popFrame_arbSame.calm
  · exact .next (.refl s)

theorem execTeardownFrameQueued_calm (s : State) : Leads Calm s (execTeardownFrameQueued s) := by
  unfold execTeardownFrameQueued
  split
  next r hr =>
    split
    · split
      · exact .next (ArbSame.of_eq (by simp [hr])).calm
      · exact .next (.refl s)
    · exact .next (.refl s)
  next => exact .next (.refl s)

/-- The withdrawal step takes every pending move out of the arrival order (R161). -/
theorem State.withdrawalStep_calm (s : State) (r : RestartSeq) : Calm s (s.withdrawalStep r) := by
  refine ⟨⟨⟨rfl, fun _ => Option.Rel.evolves_refl _ _, fun _ h => absurd rfl h, id⟩,
    ⟨fun _ m hm => (nomatch hm), fun _ _ => ⟨?_, ?_⟩⟩, fun hs e => ⟨?_, (hs e).state, (hs e).seed, (hs e).start⟩⟩,
    fun _ e => .of_eq rfl rfl⟩
  · rintro ⟨-, -, -, m, hm, -⟩; cases hm
  · rintro ⟨-, m, hm, -⟩; cases hm
  · cases (hs e).place with
    | idle bare moving => exact .idle ⟨rfl, bare.services, bare.pulses⟩ moving nofun
    | pending m x entries services pulses elem mayPend =>
      refine .idle ⟨rfl, services, pulses⟩ (fun y hy => ?_) nofun
      cases elem.symm.trans hy
      rcases mayPend with h | ⟨h, -⟩ <;> simp [h]
    | serving v x entries services elem mayMove => exact .serving v x rfl services elem mayMove

theorem execRestartWithdrawalStep_calm (s : State) : Leads Calm s (execRestartWithdrawalStep s) := by
  unfold execRestartWithdrawalStep
  split
  · split
    · exact .next (s.withdrawalStep_calm _)
    · exact .next (.refl s)
  · exact .next (.refl s)

end Sys2Proof.Machine
end

section
/-!
PROOFS. The group read: what it stores, whom it judges, and what it keeps of the arbiter, of the records and of the
exposed elements.
-/

namespace Sys2Proof.Machine

/-! ### What a read stores (R57) -/

theorem State.storeSensed_touches (s : State) (p : ElemNo × ThrowSet) : ∃ v, s.storeSensed p = { s with elems := v } :=
  s.modElem_touches _ _

theorem foldl_storeSensed_touches (l : List (ElemNo × ThrowSet)) : ∀ s : State,
    ∃ v, l.foldl State.storeSensed s = { s with elems := v } := by
  induction l with
  | nil => exact fun s => ⟨s.elems, rfl⟩
  | cons p l ih =>
    intro s
    obtain ⟨v, hv⟩ := s.storeSensed_touches p
    obtain ⟨w, hw⟩ := ih (s.storeSensed p)
    exact ⟨w, by rw [List.foldl_cons, hw, hv]⟩

/-- The contacts that a list of pairs gives an element, where it names the element. -/
theorem elem_foldl_storeSensed {l : List (ElemNo × ThrowSet)} (hl : (l.map (·.1)).Nodup) (e : ElemNo) :
    ∀ s : State, (l.foldl State.storeSensed s).elem e = (s.elem e).map (fun x =>
      match l.find? (fun p => p.1 == e) with
      | some p => { x with sensed := sensedOf x.throws p.2 }
      | none => x) := by
  induction l with
  | nil => intro s; simp
  | cons p l ih =>
    intro s
    obtain ⟨hnew, hrest⟩ := List.nodup_cons.1 hl
    rw [List.foldl_cons, ih hrest, State.storeSensed, State.elem_modElem]
    by_cases hp : e = p.1
    · subst hp
      have hnone : l.find? (fun q => q.1 == p.1) = none := by
        rw [List.find?_eq_none]
        exact fun q hq h => hnew (List.mem_map.2 ⟨q, hq, by simpa using h⟩)
      simp only [if_true, hnone, List.find?_cons, beq_self_eq_true]
      cases s.elem p.1 <;> rfl
    · have hp' : (p.1 == e) = false := beq_eq_false_iff_ne.2 fun h => hp h.symm
      rw [if_neg hp]
      simp only [List.find?_cons, hp']

/-- The pair of an element of the group that is read. -/
theorem find?_zip_groupElems {L : List ThrowSet} (hL : 8 ≤ L.length) {n : Nat} (hn : n < 2) (e : ElemNo) :
    ((groupElems n).zip L).find? (fun p => p.1 == e) =
      if e.val / 8 = n then some (e, L.getD (e.val % 8) 0) else none := by
  match L, hL with
  | a :: b :: c :: d :: i :: j :: k :: l :: rest, _ =>
    interval_cases n <;> fin_cases e <;> rfl

theorem groupElems_eq_filter (n : Nat) (hn : n < 2) : groupElems n = allElems.filter (fun e => e.val / 8 == n) := by
  interval_cases n <;> decide

theorem groupElems_nodup (n : Nat) : (groupElems n).Nodup := by
  unfold groupElems; split <;> decide

theorem mem_groupElems {n : Nat} (hn : n < 2) {e : ElemNo} : e ∈ groupElems n ↔ e.val / 8 = n := by
  rw [groupElems_eq_filter n hn]; simp [mem_allElems e]

theorem getD_append_replicate (contacts : List ThrowSet) (i : Nat) :
    (contacts ++ List.replicate 8 0).getD i 0 = contacts.getD i 0 := by
  by_cases h : i < contacts.length
  · rw [List.getD_append _ _ _ _ h]
  · rw [List.getD_append_right _ _ _ _ (Nat.le_of_not_lt h), List.getD_eq_default _ _ (Nat.le_of_not_lt h)]
    rw [List.getD_eq_getElem?_getD, List.getElem?_replicate]
    split <;> rfl

theorem State.afterStore_elem (s : State) (contacts : List ThrowSet) (e : ElemNo) :
    (s.afterStore contacts).elem e = ((s.elapse s.untilRead).elem e).map (fun x =>
      if e.val / 8 = s.scanReads % 2 then { x with sensed := sensedOf x.throws (contacts.getD (e.val % 8) 0) } else x) := by
  rw [State.elem, State.afterStore]
  simp

theorem State.store_eq_afterStore (s : State) (contacts : List ThrowSet) :
    ((groupElems s.nextGroup).zip (contacts ++ List.replicate 8 0)).foldl State.storeSensed
      { s.elapse s.untilRead with scanReads := s.scanReads + 1 } = s.afterStore contacts := by
  have hn : s.nextGroup < 2 := Nat.mod_lt _ (by decide)
  have hlen : 8 ≤ (contacts ++ List.replicate 8 (0 : ThrowSet)).length := by simp
  obtain ⟨v, hv⟩ := foldl_storeSensed_touches ((groupElems s.nextGroup).zip (contacts ++ List.replicate 8 0))
    { s.elapse s.untilRead with scanReads := s.scanReads + 1 }
  have hnodup : (((groupElems s.nextGroup).zip (contacts ++ List.replicate 8 0)).map (·.1)).Nodup := by
    rw [List.map_fst_zip]
    · exact groupElems_nodup _
    · refine le_trans ?_ hlen
      unfold groupElems; split <;> simp
  have helem := fun e => elem_foldl_storeSensed hnodup e { s.elapse s.untilRead with scanReads := s.scanReads + 1 }
  rw [hv] at helem ⊢
  have hvec : v = (s.afterStore contacts).elems := by
    refine Vector.ext fun i hi => ?_
    refine Eq.trans (b := _) (helem ⟨i, hi⟩) (Eq.trans ?_ (s.afterStore_elem contacts ⟨i, hi⟩).symm)
    refine Option.map_congr fun x _ => ?_
    rw [find?_zip_groupElems hlen hn]
    by_cases hg : i / 8 = s.scanReads % 2
    · rw [if_pos (show i / 8 = s.nextGroup from hg), if_pos hg, getD_append_replicate]
    · rw [if_neg (show ¬i / 8 = s.nextGroup from hg), if_neg hg]
  rw [hvec]
  rfl

/-- A read: the values are stored, the elements of its group are judged in ascending order, and the group 1 read in
SEEDING ends the first full loop (R56 to R58, R169). -/
theorem State.readGroup_eq (s : State) (contacts : List ThrowSet) : s.readGroup contacts =
    if ((s.afterStore contacts).forElems (groupElems s.nextGroup) State.judge).nodeState = .seeding ∧ s.nextGroup = 1 then
      ((s.afterStore contacts).forElems (groupElems s.nextGroup) State.judge).endSeeding
    else (s.afterStore contacts).forElems (groupElems s.nextGroup) State.judge := by
  rw [← s.store_eq_afterStore contacts]
  rfl

/-! ### What a read keeps -/

theorem State.afterStore_calm (s : State) (contacts : List ThrowSet) : Calm s (s.afterStore contacts) := by
  rw [← s.store_eq_afterStore contacts]
  exact ((s.elapse_calm _).trans (ArbSame.calm (t := { s.elapse s.untilRead with scanReads := s.scanReads + 1 }) (.of_eq rfl))).trans
    (Calm.foldl State.storeSensed_calm _ _)

theorem State.forElems_tame {f : ElemNo → State → State} (h : ∀ e s, Tame s (f e s)) (s : State)
    (es : List ElemNo) : Tame s (s.forElems es f) := Tame.foldl (fun s e => h e s) es s

/-- `t` keeps of `s` the laws of the records and of the control inputs, and, where the laws of the arbiter and of
element states hold, those and that nothing is left to be started. -/
structure Sound (s t : State) : Prop extends Evolves s t where
  lawful : s.lawful → t.lawful
  quiet  : s.lawful → s.quiet → t.quiet

theorem Tame.sound {s t : State} (h : Tame s t) : Sound s t :=
  ⟨h.toEvolves, h.lawful, fun hs => h.quiet hs.known⟩

theorem Sound.trans {s t u : State} (h : Sound s t) (k : Sound t u) : Sound s u :=
  ⟨h.toEvolves.trans k.toEvolves, k.lawful ∘ h.lawful, fun hs hq => k.quiet (h.lawful hs) (h.quiet hs hq)⟩

theorem Element.seed_evolves (cfg : ImageConfig) (x : Element) : x.Evolves cfg x.seed :=
  (Element.setHalf_evolves cfg (x.halfFrom_cases x.sensed)).trans (.of_eq rfl)

theorem State.seedElems_tame (s : State) : Tame s (s.forElems allElems fun e s => s.modElem e Element.seed) :=
  State.forElems_tame (fun e s => (WorksAt.modElem_sameState s e (fun x => x.seed_evolves _) (fun _ => rfl)
    (fun _ => rfl) fun _ hsafe => hsafe.of_eq rfl).tame) s allElems

/-- The node goes from SEEDING, with no move, to RUNNING (R169). -/
theorem State.enterRunning_sound {s : State} (hseeding : s.nodeState = .seeding) :
    Sound s { s with startUpDrive := false, nodeState := .running } := by
  refine ⟨⟨rfl, fun _ => Option.Rel.evolves_refl _ _, fun _ h => absurd rfl h, nofun⟩, fun hs e => ?_, fun hs _ => ?_⟩
  · have hspares : State.Spares e s { s with startUpDrive := false, nodeState := .running } :=
      .of_eq e rfl rfl rfl rfl rfl
    exact ⟨hspares.place (hs e).place, (hs e).state, nofun, nofun⟩
  · obtain ⟨hqueue, -⟩ := hs.no_moves fun e => (hs e).seed hseeding
    have hmem : ∀ m, m ∉ s.moveQueue := fun m hm => by rw [hqueue] at hm; cases hm
    exact ⟨fun ⟨_, _, _, m, hm, _⟩ => hmem m hm, fun ⟨_, m, hm, _⟩ => hmem m hm⟩

theorem State.listen_arbSame (s : State) : ArbSame s { s with lineState := .seeking } := .of_eq rfl

theorem State.endSeeding_sound {s : State} (hseeding : s.nodeState = .seeding) : Sound s s.endSeeding := by
  have hseed : ArbTouched s (s.forElems allElems fun e s => s.modElem e Element.seed) :=
    s.forElems_arb _ _ fun e s => s.modElem_arb e _
  exact (s.seedElems_tame.sound.trans (State.enterRunning_sound (hseed.nodeState.trans hseeding))).trans
    ((State.enqueue_arbSame _ (.notice .started none 0)).trans (State.listen_arbSame _)).calm.toTame.sound

theorem State.readGroup_sound (s : State) (contacts : List ThrowSet) : Sound s (s.readGroup contacts) := by
  have hjudged := ((s.afterStore_calm contacts).toTame.trans
    (State.forElems_tame (fun e s => (s.judge_worksAt e).tame) _ (groupElems s.nextGroup))).sound
  rw [State.readGroup_eq]
  split
  next h => exact hjudged.trans (State.endSeeding_sound h.1)
  next => exact hjudged

/-! ### An exposed element at a read -/

/-- The judgement of an exposed element leaves it exposed, or a second mismatch takes it to FAULT (R63, R64). -/
theorem State.judge_of_exposed {s : State} {e : ElemNo} {x : Element} (hx : s.elem e = some x)
    (hexp : x.exposed = true) : State.Stays e s (s.judge e) ∨
      x.readMatches = false ∧ x.mismatchRun ≠ 0 ∧ (s.judge e).elem e = some x.toFault := by
  have hs := Element.exposed_iff.1 hexp
  have hrun : ∀ n, State.Stays e s (s.setElem e { x with mismatchRun := n }) := fun n y hy hexp => by
    cases hx.symm.trans hy
    exact ⟨_, s.elem_setElem_self e _, hexp, rfl, rfl, rfl⟩
  rw [State.judge_exposed hx hs]
  unfold State.judgeExposed
  split
  · exact .inl (hrun 0)
  next hmatch =>
    split
    · exact .inl (hrun 1)
    next hrun =>
      refine .inr ⟨Bool.eq_false_iff.2 hmatch, hrun, ?_⟩
      rw [State.elem_congr (s.dropOut_arbSame e x).elems, State.elem_setElem_self]

end Sys2Proof.Machine
end

section
/-!
PROOFS. RELEASE, the end of a warm restart, the image and the cold start: what they keep of the arbiter and the
elements.
-/

namespace Sys2Proof.Machine

/-! ### RELEASE (R15, R16, R48) -/

section
variable {s : State} {e : ElemNo} {x : Element} (hx : s.elem e = some x)
include hx

theorem State.releaseSeen_claimed (hs : x.state = .claimed) : s.releaseSeen e = s.setElem e x.toFree := by
  simp [State.releaseSeen, hx, hs]

theorem State.releaseSeen_moving (hs : x.state = .moving) :
    s.releaseSeen e = s.setElem e { x with owner := none, releaseOnCompletion := true } := by
  simp [State.releaseSeen, hx, hs]

theorem State.releaseSeen_held (hs : x.state = .waiting ∨ x.state = .verifying ∨ x.state = .set ∨ x.state = .live ∨
    x.state = .fault) : s.releaseSeen e = s.release e := by
  rcases hs with hs | hs | hs | hs | hs <;> simp [State.releaseSeen, hx, hs]

theorem State.releaseSeen_left (hs : x.state = .free ∨ x.state = .returning) : s.releaseSeen e = s := by
  rcases hs with hs | hs <;> simp [State.releaseSeen, hx, hs]

end

theorem State.releaseSeen_of_none {s : State} {e : ElemNo} (hx : s.elem e = none) : s.releaseSeen e = s := by
  simp [State.releaseSeen, hx]

/-- The states from which a RELEASE takes an element through release processing (R15). -/
theorem ElemState.release_cases (st : ElemState) : st = .claimed ∨ st = .moving ∨
    (st = .waiting ∨ st = .verifying ∨ st = .set ∨ st = .live ∨ st = .fault) ∨ st = .free ∨ st = .returning := by
  cases st <;> simp

/-- A RELEASE at an element works on that element; its laws hold on, and a WAITING one's once its move is withdrawn. -/
theorem State.release_evolves (s : State) (e : ElemNo) : Evolves s (s.release e) := by
  cases hx : s.elem e with
  | none => simp only [State.release, hx]; exact .refl s
  | some x =>
    rw [State.release_of_elem hx]
    exact State.releaseFromStep2_evolves hx (x.disown_evolves _)

theorem State.release_quiets (s : State) (e : ElemNo) : Quiets s (s.release e) := by
  unfold State.release
  split
  · exact .refl s
  · exact s.releaseFromStep2_quiets _ _

theorem State.release_spares (s : State) {e f : ElemNo} (hf : f ≠ e) : State.Spares f s (s.release e) := by
  unfold State.release
  split
  · exact .refl f s
  · exact s.releaseFromStep2_spares hf _

theorem State.releaseSeen_evolves (s : State) (e : ElemNo) : Evolves s (s.releaseSeen e) := by
  cases hx : s.elem e with
  | none => rw [State.releaseSeen_of_none hx]; exact .refl s
  | some x =>
    rcases x.state.release_cases with hs | hs | hs | hs
    · rw [State.releaseSeen_claimed hx hs]; exact s.setElem_evolves hx (x.toFree_evolves _)
    · rw [State.releaseSeen_moving hx hs]; exact s.setElem_evolves hx (.of_eq rfl)
    · rw [State.releaseSeen_held hx hs]; exact s.release_evolves e
    · rw [State.releaseSeen_left hx hs]; exact .refl s

theorem State.releaseSeen_quiets (s : State) (e : ElemNo) : Quiets s (s.releaseSeen e) := by
  cases hx : s.elem e with
  | none => rw [State.releaseSeen_of_none hx]; exact .refl s
  | some x =>
    rcases x.state.release_cases with hs | hs | hs | hs
    · rw [State.releaseSeen_claimed hx hs]; exact s.setElem_quiets _ _
    · rw [State.releaseSeen_moving hx hs]; exact s.setElem_quiets _ _
    · rw [State.releaseSeen_held hx hs]; exact s.release_quiets e
    · rw [State.releaseSeen_left hx hs]; exact .refl s

theorem State.releaseSeen_spares (s : State) {e f : ElemNo} (hf : f ≠ e) : State.Spares f s (s.releaseSeen e) := by
  cases hx : s.elem e with
  | none => rw [State.releaseSeen_of_none hx]; exact .refl f s
  | some x =>
    rcases x.state.release_cases with hs | hs | hs | hs
    · rw [State.releaseSeen_claimed hx hs]; exact State.setElem_spares _ hf
    · rw [State.releaseSeen_moving hx hs]; exact State.setElem_spares _ hf
    · rw [State.releaseSeen_held hx hs]; exact s.release_spares hf
    · rw [State.releaseSeen_left hx hs]; exact .refl f s

theorem State.release_lawAt {s : State} {e : ElemNo} {x : Element} (hx : s.elem e = some x) (hbare : s.bareAt e)
    (hstart : s.nodeState ≠ .starting) (hseed : s.nodeState ≠ .seeding) : (s.release e).lawAt e := by
  rw [State.release_of_elem hx]
  exact State.releaseFromStep2_lawAt hbare rfl hstart hseed

theorem State.releaseSeen_lawAt {s : State} {e : ElemNo} (hs : s.lawAt e)
    (hwaiting : ∀ x, s.elem e = some x → x.state ≠ .waiting) : (s.releaseSeen e).lawAt e := by
  cases hx : s.elem e with
  | none => rw [State.releaseSeen_of_none hx]; exact hs
  | some x =>
    have hseed : x.state ≠ .free → s.nodeState ≠ .seeding := hs.not_seeding hx
    rcases x.state.release_cases with h | h | h | h
    · rw [State.releaseSeen_claimed hx h]
      have hrest := Element.atRest_claimed h
      exact State.setElem_lawAt_of_bare (hs.place.bareAt hx hrest.1 hrest.2) (Element.atRest_free rfl) x.toFree_stateSafe
        (hs.not_starting hx) fun _ => rfl
    · rw [State.releaseSeen_moving hx h]
      exact (WorksAt.setElem_sameState (y := { x with owner := none, releaseOnCompletion := true }) hx (.of_eq rfl) rfl rfl
        fun hsafe => hsafe.releaseMoving h).lawAt hs
    · rw [State.releaseSeen_held hx h]
      have hrest : x.atRest := Element.atRest_of_state (hwaiting x hx) (by rcases h with h | h | h | h | h <;> simp [h])
        (by rcases h with h | h | h | h | h <;> simp [h])
      exact State.release_lawAt hx (hs.place.bareAt hx hrest.1 hrest.2) (hs.not_starting hx)
        (hseed (by rcases h with h | h | h | h | h <;> simp [h]))
    · rw [State.releaseSeen_left hx h]; exact hs

/-- What a RELEASE does at one element: it acts on the elements of the handle (R109). -/
def State.releaseOwned (h : Handle) (e : ElemNo) (s : State) : State :=
  match s.elem e with
  | some x => if x.ownedBy h then s.releaseSeen e else s
  | none => s

theorem State.releaseHandle_eq (s : State) (h : Handle) :
    s.releaseHandle h = (s.withdrawWaiting h).forElems allElems (State.releaseOwned h) := rfl

theorem State.releaseOwned_of_owned {s : State} {h : Handle} {e : ElemNo} {x : Element} (hx : s.elem e = some x)
    (ho : x.ownedBy h = true) : s.releaseOwned h e = s.releaseSeen e := by
  simp [State.releaseOwned, hx, ho]

theorem State.releaseOwned_of_not {s : State} {h : Handle} {e : ElemNo}
    (ho : ∀ x, s.elem e = some x → x.ownedBy h = false) : s.releaseOwned h e = s := by
  unfold State.releaseOwned
  split
  next x hx => rw [ho x hx]; rfl
  next => rfl

/-- A RELEASE works on an element of the handle, and on none other. -/
theorem State.releaseOwned_cases (h : Handle) (e : ElemNo) (s : State) :
    (∃ x, s.elem e = some x ∧ x.ownedBy h = true ∧ s.releaseOwned h e = s.releaseSeen e) ∨
      (∀ x, s.elem e = some x → x.ownedBy h = false) ∧ s.releaseOwned h e = s := by
  by_cases ho : ∀ x, s.elem e = some x → x.ownedBy h = false
  · exact .inr ⟨ho, State.releaseOwned_of_not ho⟩
  · simp only [not_forall, Bool.not_eq_false] at ho
    obtain ⟨x, hx, ho⟩ := ho
    exact .inl ⟨x, hx, ho, State.releaseOwned_of_owned hx ho⟩

theorem State.releaseOwned_touches (h : Handle) (e : ElemNo) (s : State) : ArbTouched s (s.releaseOwned h e) := by
  rcases s.releaseOwned_cases h e with ⟨_, _, _, heq⟩ | ⟨_, heq⟩ <;> rw [heq]
  · exact s.releaseSeen_touches e
  · exact .refl s

theorem State.releaseOwned_spares (h : Handle) (e : ElemNo) (s : State) (f : ElemNo) (hf : f ≠ e) :
    State.Spares f s (s.releaseOwned h e) := by
  rcases s.releaseOwned_cases h e with ⟨_, _, _, heq⟩ | ⟨_, heq⟩ <;> rw [heq]
  · exact s.releaseSeen_spares hf
  · exact .refl f s

theorem State.releaseOwned_evolves (h : Handle) (e : ElemNo) (s : State) : Evolves s (s.releaseOwned h e) := by
  rcases s.releaseOwned_cases h e with ⟨_, _, _, heq⟩ | ⟨_, heq⟩ <;> rw [heq]
  · exact s.releaseSeen_evolves e
  · exact .refl s

theorem State.releaseOwned_quiets (h : Handle) (e : ElemNo) (s : State) : Quiets s (s.releaseOwned h e) := by
  rcases s.releaseOwned_cases h e with ⟨_, _, _, heq⟩ | ⟨_, heq⟩ <;> rw [heq]
  · exact s.releaseSeen_quiets e
  · exact .refl s

theorem Evolves.foldl {α : Type} {f : State → α → State} (h : ∀ s a, Evolves s (f s a)) :
    ∀ (l : List α) (s : State), Evolves s (l.foldl f s)
  | [], s => .refl s
  | a :: l, s => (h s a).trans (Evolves.foldl h l (f s a))

theorem Quiets.foldl {α : Type} {f : State → α → State} (h : ∀ s a, Quiets s (f s a)) :
    ∀ (l : List α) (s : State), Quiets s (l.foldl f s)
  | [], s => .refl s
  | a :: l, s => (h s a).trans (Quiets.foldl h l (f s a))

/-- An element of the handle that is WAITING, whose move a RELEASE withdraws (R48). -/
def Element.waitsFor (h : Handle) (x : Element) : Bool := x.ownedBy h && x.state == .waiting

theorem State.withdrawWaiting_entriesOf (s : State) (h : Handle) (e : ElemNo) :
    (s.withdrawWaiting h).entriesOf e = if (s.elem e).any (Element.waitsFor h) then [] else s.entriesOf e := by
  unfold State.entriesOf State.withdrawWaiting
  rw [List.filter_filter]
  cases hx : s.elem e with
  | none =>
    refine List.filter_congr fun m _ => ?_
    by_cases hm : m.elem = e
    · simp [hm, hx]
    · simp [hm]
  | some x =>
    simp only [Option.any_some]
    split
    next hw =>
      rw [List.filter_eq_nil_iff]
      intro m _ hm
      simp only [Bool.and_eq_true, beq_iff_eq] at hm
      obtain ⟨rfl, hkept⟩ := hm
      rw [hx] at hkept
      simp only [Element.waitsFor] at hw
      simp [hw] at hkept
    next hw =>
      refine List.filter_congr fun m _ => ?_
      by_cases hm : m.elem = e
      · simp only [Element.waitsFor] at hw
        simp [hm, hx, hw]
      · simp [hm]

/-- Withdrawal leaves an element without a move, or as it was. -/
theorem State.withdrawWaiting_spares {s : State} {h : Handle} {e : ElemNo}
    (hw : ∀ x, s.elem e = some x → x.waitsFor h = false) : State.Spares e s (s.withdrawWaiting h) := by
  refine .same rfl rfl ?_ rfl fun _ => rfl
  rw [State.withdrawWaiting_entriesOf, if_neg]
  cases hx : s.elem e with
  | none => simp
  | some x => simp [hw x hx]

theorem State.withdrawWaiting_frame (s : State) (h : Handle) : ArbFrame s (s.withdrawWaiting h) := ⟨rfl, rfl, rfl, rfl, rfl⟩

theorem State.withdrawWaiting_bareAt {s : State} {h : Handle} {e : ElemNo} {x : Element} (hx : s.elem e = some x)
    (hw : x.waitsFor h = true) (hs : s.lawAt e) : (s.withdrawWaiting h).bareAt e := by
  have hstate : x.state = .waiting := by
    simp only [Element.waitsFor, Bool.and_eq_true, beq_iff_eq] at hw; exact hw.2
  have hentries : (s.withdrawWaiting h).entriesOf e = [] := by
    rw [State.withdrawWaiting_entriesOf, hx]; exact if_pos hw
  cases hs.place with
  | idle bare => exact ⟨hentries, bare.services, bare.pulses⟩
  | pending m y entries services pulses => exact ⟨hentries, services, pulses⟩
  | serving v y _ _ elem mayMove =>
    cases hx.symm.trans elem
    rcases mayMove with h | ⟨h, -⟩ <;> cases hstate.symm.trans h

theorem State.Spares.of_bareAt {s t : State} {e : ElemNo} (h : State.Spares e s t) (hb : s.bareAt e) :
    t.elem e = s.elem e ∧ t.bareAt e := by
  cases h with
  | same elem control entries services pulses =>
    exact ⟨elem, entries.trans hb.entries, services.trans hb.services, fun c => (pulses c).trans (hb.pulses c)⟩
  | started m _ _ mem => rw [hb.entries] at mem; cases mem

/-- An element that is not WAITING for a handle is not so after a start. -/
theorem State.Spares.waitsFor {s t : State} {e : ElemNo} {h : Handle} (hsp : State.Spares e s t)
    (hw : ∀ x, s.elem e = some x → x.waitsFor h = false) : ∀ x, t.elem e = some x → x.waitsFor h = false := by
  cases hsp with
  | same elem => exact elem ▸ hw
  | started m x _ _ before _ _ elem =>
    intro y hy
    cases elem.symm.trans hy
    have hne : (x.startMove s.config m.target).state ≠ .waiting := by
      rw [Element.startMove_state]; split
      · nofun
      · assumption
    simp [Element.waitsFor, hne]

/-- The part of a RELEASE at one element: the state it works on, and what stands after it. -/
theorem State.releaseHandle_split (s : State) (h : Handle) (e : ElemNo) :
    ∃ u, ArbFrame (s.withdrawWaiting h) u ∧ State.Spares e (s.withdrawWaiting h) u ∧
      ArbFrame (u.releaseOwned h e) (s.releaseHandle h) ∧ State.Spares e (u.releaseOwned h e) (s.releaseHandle h) :=
  State.forElems_split (fun e s => (s.releaseOwned_touches h e).frame) (fun e s f hf => s.releaseOwned_spares h e f hf)
    allElems_nodup (mem_allElems e) (s.withdrawWaiting h)

theorem State.releaseHandle_lawful {s : State} (h : Handle) (hs : s.lawful) : (s.releaseHandle h).lawful := by
  intro e
  obtain ⟨u, hframe, hspares, hframe', hspares'⟩ := s.releaseHandle_split h e
  refine hspares'.lawAt hframe' ?_
  by_cases hw : ∃ x, s.elem e = some x ∧ x.waitsFor h = true
  · obtain ⟨x, hx, hw⟩ := hw
    obtain ⟨helem, hbare⟩ := hspares.of_bareAt (State.withdrawWaiting_bareAt hx hw (hs e))
    have hx' : u.elem e = some x := helem.trans hx
    have howned : x.ownedBy h = true ∧ x.state = .waiting := by simpa [Element.waitsFor] using hw
    rcases u.releaseOwned_cases h e with ⟨y, hy, -, heq⟩ | ⟨hnot, -⟩
    · cases hx'.symm.trans hy
      have hnode := hframe.nodeState
      rw [heq, State.releaseSeen_held hx' (.inl howned.2)]
      exact State.release_lawAt hx' hbare (hnode ▸ (hs e).not_starting hx)
        (hnode ▸ (hs e).not_seeding hx (by simp [howned.2]))
    · rw [hnot x hx'] at howned; cases howned.1
  · have hw : ∀ x, s.elem e = some x → x.waitsFor h = false := fun x hx =>
      Bool.eq_false_iff.2 fun hwait => hw ⟨x, hx, hwait⟩
    have hwithdrawn := State.withdrawWaiting_spares hw
    have hu : u.lawAt e := hspares.lawAt hframe (hwithdrawn.lawAt (s.withdrawWaiting_frame h) (hs e))
    rcases u.releaseOwned_cases h e with ⟨y, hy, ho, heq⟩ | ⟨-, heq⟩
    · rw [heq]
      refine State.releaseSeen_lawAt hu fun z hz hstate => ?_
      cases hy.symm.trans hz
      have := hspares.waitsFor (hwithdrawn.waitsFor hw) y hy
      simp [Element.waitsFor, ho, hstate] at this
    · rw [heq]; exact hu

theorem State.releaseHandle_sound (s : State) (h : Handle) : Sound s (s.releaseHandle h) := by
  have hwithdrawn : Quiets s (s.withdrawWaiting h) :=
    ⟨fun hk m hm => hk m (List.mem_of_mem_filter hm), fun _ hq =>
      ⟨fun ⟨hn, hcoil, hc, m, hm, hrest⟩ => hq.1 ⟨hn, hcoil, hc, m, List.mem_of_mem_filter hm, hrest⟩,
        fun ⟨hn, m, hm, hrest⟩ => hq.2 ⟨hn, m, List.mem_of_mem_filter hm, hrest⟩⟩⟩
  have hev : Evolves s (s.withdrawWaiting h) := ⟨rfl, fun _ => Option.Rel.evolves_refl _ _, fun _ h => absurd rfl h, id⟩
  refine ⟨hev.trans (Evolves.foldl (fun s e => s.releaseOwned_evolves h e) _ _), State.releaseHandle_lawful h,
    fun hs hq => ?_⟩
  exact (hwithdrawn.trans (Quiets.foldl (fun s e => s.releaseOwned_quiets h e) _ _)).quiet hs.known hq

/-- Release processing leaves no element exposed. -/
theorem State.release_not_exposed {s : State} {e : ElemNo} {x : Element} (hx : s.elem e = some x) :
    ∀ y, (s.release e).elem e = some y → y.exposed = false := by
  rw [State.release_of_elem hx]
  have hset : ∀ w : Element, w.exposed = false → ∀ y, (s.setElem e w).elem e = some y → y.exposed = false :=
    fun w hw y hy => by cases (s.elem_setElem_self e w).symm.trans hy; exact hw
  unfold State.releaseFromStep2
  split
  · exact hset _ rfl
  · split
    next t _ =>
      have hw := s.elem_setElem_self e (x.disown.toReturning t)
      intro y hy
      cases (State.queueMove_starts hw t 7).spares e with
      | same elem =>
        cases hy.symm.trans (elem.trans hw)
        rfl
      | started m z _ _ before _ _ elem =>
        cases hw.symm.trans before
        cases elem.symm.trans hy
        simp [Element.exposed, Element.startMove_state, Element.toReturning]
    · exact hset _ rfl

theorem State.Spares.not_exposed {s t : State} {e : ElemNo} (h : State.Spares e s t)
    (hs : ∀ x, s.elem e = some x → x.exposed = false) : ∀ x, t.elem e = some x → x.exposed = false := by
  cases h with
  | same elem => exact elem ▸ hs
  | started m x _ _ before _ _ elem =>
    intro y hy
    cases elem.symm.trans hy
    have hx := hs x before
    unfold Element.exposed at hx ⊢
    rw [Element.startMove_state]
    split
    · rfl
    · exact hx

/-- An exposed element of another path stays so at a RELEASE, and one of the path leaves SET and LIVE. -/
theorem State.releaseHandle_of_exposed {s : State} (hs : s.lawful) (h : Handle) {e : ElemNo} {x : Element}
    (hx : s.elem e = some x) (hexp : x.exposed = true) :
    State.Stays e s (s.releaseHandle h) ∨
      x.ownedBy h = true ∧ ∀ y, (s.releaseHandle h).elem e = some y → y.exposed = false := by
  obtain ⟨u, hframe, hspares, hframe', hspares'⟩ := s.releaseHandle_split h e
  have hstate := Element.exposed_iff.1 hexp
  have hwithdrawn : State.Spares e s (s.withdrawWaiting h) := State.withdrawWaiting_spares fun y hy => by
    cases hx.symm.trans hy
    rcases hstate with h' | h' <;> simp [Element.waitsFor, h']
  have hrest := Element.atRest_exposed hstate
  obtain ⟨-, hb⟩ := hwithdrawn.of_bareAt ((hs e).place.bareAt hx hrest.1 hrest.2)
  obtain ⟨helem, hbare⟩ := hspares.of_bareAt hb
  have hx' : u.elem e = some x := helem.trans hx
  rcases u.releaseOwned_cases h e with ⟨y, hy, ho, heq⟩ | ⟨-, heq⟩
  · cases hx'.symm.trans hy
    refine .inr ⟨ho, hspares'.not_exposed ?_⟩
    rw [heq, State.releaseSeen_held hx' (by rcases hstate with h' | h' <;> simp [h'])]
    exact State.release_not_exposed hx'
  · rw [heq] at hspares'
    have hlaw := (hwithdrawn.lawAt (s.withdrawWaiting_frame h) (hs e))
    exact .inl (((hwithdrawn.stays (hs e).place).trans (hspares.stays hlaw.place)).trans
      (hspares'.stays (hspares.lawAt hframe hlaw).place))

end Sys2Proof.Machine
end

section
/-!
PROOFS. The end of a warm restart, the image and the cold start, and the step laws of the arbiter, of element states,
of the records and of exposed elements: O54, O55, O57 and O60.
-/

namespace Sys2Proof.Machine

/-! ### The release step at one element (R161) -/

section
variable {s : State} {e : ElemNo} {x : Element} (hx : s.elem e = some x)
include hx

theorem State.restartElem_claimed (hs : x.state = .claimed) : s.restartElem e = s.setElem e x.toFree := by
  simp [State.restartElem, hx, hs]

theorem State.restartElem_waiting (hs : x.state = .waiting) : s.restartElem e = (s.withdraw e).release e := by
  simp [State.restartElem, hx, hs]

theorem State.restartElem_released (hs : x.state = .verifying ∨ x.state = .set ∨ x.state = .live ∨
    x.state = .fault ∧ x.owner.isSome = true) : s.restartElem e = s.release e := by
  rcases hs with hs | hs | hs | ⟨hs, ho⟩
  · simp [State.restartElem, hx, hs]
  · simp [State.restartElem, hx, hs]
  · simp [State.restartElem, hx, hs]
  · simp [State.restartElem, hx, hs, ho]

theorem State.restartElem_left (hs : x.state = .free ∨ x.state = .moving ∨ x.state = .fault ∧ x.owner.isSome = false ∨
    x.state = .returning ∧ (x.verifyDue = true ∨ s.hasEntry e = true ∨ s.hasService e = true ∨ x.target = none)) :
    s.restartElem e = s := by
  rcases hs with hs | hs | ⟨hs, ho⟩ | ⟨hs, hd⟩
  · simp [State.restartElem, hx, hs]
  · simp [State.restartElem, hx, hs]
  · simp only [Option.isSome_eq_false_iff, Option.isNone_iff_eq_none] at ho
    simp [State.restartElem, hx, hs, ho]
  · rcases hd with hd | hd | hd | hd <;> simp [State.restartElem, hx, hs, hd]

theorem State.restartElem_requeued (hs : x.state = .returning) (hdue : x.verifyDue = false)
    (hentry : s.hasEntry e = false) (hserve : s.hasService e = false) {t : Throw} (ht : x.target = some t) :
    s.restartElem e = s.queueMove e t 7 := by
  simp [State.restartElem, hx, hs, hdue, hentry, hserve, ht]

/-- What the release step does at an element in use. -/
theorem State.restartElem_cases :
    x.state = .claimed ∧ s.restartElem e = s.setElem e x.toFree ∨
    x.state = .waiting ∧ s.restartElem e = (s.withdraw e).release e ∨
    (x.state = .verifying ∨ x.state = .set ∨ x.state = .live ∨ x.state = .fault ∧ x.owner.isSome = true) ∧
      s.restartElem e = s.release e ∨
    (x.state = .free ∨ x.state = .moving ∨ x.state = .fault ∧ x.owner.isSome = false ∨
      x.state = .returning ∧ (x.verifyDue = true ∨ s.hasEntry e = true ∨ s.hasService e = true ∨ x.target = none)) ∧
      s.restartElem e = s ∨
    x.state = .returning ∧ x.verifyDue = false ∧ s.hasEntry e = false ∧ s.hasService e = false ∧
      ∃ t, x.target = some t ∧ s.restartElem e = s.queueMove e t 7 := by
  cases hs : x.state with
  | claimed => exact .inl ⟨rfl, State.restartElem_claimed hx hs⟩
  | waiting => exact .inr (.inl ⟨rfl, State.restartElem_waiting hx hs⟩)
  | verifying => exact .inr (.inr (.inl ⟨.inl rfl, State.restartElem_released hx (.inl hs)⟩))
  | set => exact .inr (.inr (.inl ⟨.inr (.inl rfl), State.restartElem_released hx (.inr (.inl hs))⟩))
  | live => exact .inr (.inr (.inl ⟨.inr (.inr (.inl rfl)), State.restartElem_released hx (.inr (.inr (.inl hs)))⟩))
  | free => exact .inr (.inr (.inr (.inl ⟨.inl rfl, State.restartElem_left hx (.inl hs)⟩)))
  | moving => exact .inr (.inr (.inr (.inl ⟨.inr (.inl rfl), State.restartElem_left hx (.inr (.inl hs))⟩)))
  | fault =>
    cases ho : x.owner.isSome with
    | true => exact .inr (.inr (.inl ⟨.inr (.inr (.inr ⟨rfl, rfl⟩)),
        State.restartElem_released hx (.inr (.inr (.inr ⟨hs, ho⟩)))⟩))
    | false => exact .inr (.inr (.inr (.inl ⟨.inr (.inr (.inl ⟨rfl, rfl⟩)),
        State.restartElem_left hx (.inr (.inr (.inl ⟨hs, ho⟩)))⟩)))
  | returning =>
    by_cases h : x.verifyDue = true ∨ s.hasEntry e = true ∨ s.hasService e = true ∨ x.target = none
    · exact .inr (.inr (.inr (.inl ⟨.inr (.inr (.inr ⟨rfl, h⟩)),
        State.restartElem_left hx (.inr (.inr (.inr ⟨hs, h⟩)))⟩)))
    · simp only [not_or, Bool.not_eq_true] at h
      obtain ⟨hdue, hentry, hserve, ht⟩ := h
      obtain ⟨t, ht⟩ := Option.ne_none_iff_exists'.1 ht
      exact .inr (.inr (.inr (.inr ⟨rfl, hdue, hentry, hserve, t, ht,
        State.restartElem_requeued hx hs hdue hentry hserve ht⟩)))

end

theorem State.restartElem_of_none {s : State} {e : ElemNo} (hx : s.elem e = none) : s.restartElem e = s := by
  simp [State.restartElem, hx]

theorem State.withdraw_entriesOf (s : State) (e f : ElemNo) :
    (s.withdraw e).entriesOf f = if f = e then [] else s.entriesOf f := s.entriesOf_filter_ne f e

theorem State.withdraw_spares (s : State) {e f : ElemNo} (hf : f ≠ e) : State.Spares f s (s.withdraw e) :=
  .same rfl rfl (by rw [State.withdraw_entriesOf, if_neg hf]) rfl fun _ => rfl

theorem State.withdraw_evolves (s : State) (e : ElemNo) : Evolves s (s.withdraw e) :=
  ⟨rfl, fun _ => Option.Rel.evolves_refl _ _, fun _ h => absurd rfl h, id⟩

theorem State.restartElem_evolves (e : ElemNo) (s : State) : Evolves s (s.restartElem e) := by
  cases hx : s.elem e with
  | none => rw [State.restartElem_of_none hx]; exact .refl s
  | some x =>
    rcases State.restartElem_cases hx with ⟨-, h⟩ | ⟨-, h⟩ | ⟨-, h⟩ | ⟨-, h⟩ | ⟨-, -, -, -, t, -, h⟩ <;> rw [h]
    · exact s.setElem_evolves hx (x.toFree_evolves _)
    · exact (s.withdraw_evolves e).trans (State.release_evolves _ e)
    · exact s.release_evolves e
    · exact .refl s
    · exact s.queueMove_evolves _ _ _

theorem State.restartElem_spares (e : ElemNo) (s : State) (f : ElemNo) (hf : f ≠ e) :
    State.Spares f s (s.restartElem e) := by
  cases hx : s.elem e with
  | none => rw [State.restartElem_of_none hx]; exact .refl f s
  | some x =>
    rcases State.restartElem_cases hx with ⟨-, h⟩ | ⟨-, h⟩ | ⟨-, h⟩ | ⟨-, h⟩ | ⟨-, -, -, -, t, -, h⟩ <;> rw [h]
    · exact State.setElem_spares _ hf
    · exact (s.withdraw_spares hf).trans (s.withdraw_arb e).frame (State.release_spares _ hf)
    · exact s.release_spares hf
    · exact .refl f s
    · exact s.queueMove_spares hf _ _

/-- The element stands as its state says, with every element on its way having its move, and its record is as its state
says. -/
structure State.settledAt (s : State) (e : ElemNo) : Prop where
  place : s.Place True e
  state : ∀ x, s.elem e = some x → x.stateSafe

theorem State.Spares.settledAt {s t : State} {e : ElemNo} (h : State.Spares e s t) (hs : s.settledAt e) : t.settledAt e :=
  ⟨h.place hs.place, h.stateSafe hs.state⟩

theorem State.release_settledAt {s : State} {e : ElemNo} {x : Element} (hx : s.elem e = some x) (hbare : s.bareAt e) :
    (s.release e).settledAt e := by
  rw [State.release_of_elem hx]
  exact ⟨State.releaseFromStep2_place hbare _, State.releaseFromStep2_stateSafe rfl⟩

theorem State.queueMove_place {s : State} {e : ElemNo} {x : Element} (hx : s.elem e = some x) (hbare : s.bareAt e)
    (hpend : x.mayPend) (t : Throw) (k : Lane) (p : Prop) : (s.queueMove e t k).Place p e := by
  refine ((State.queueMove_starts hx t k).spares e).place (.pending ⟨e, t, k, needsChannel x.cls t⟩ x ?_ hbare.services
    hbare.pulses hx hpend rfl)
  rw [State.pushMove_entriesOf, if_pos rfl]
  exact congrArg (· ++ _) hbare.entries

theorem State.queueMove_stateSafe {s : State} {e : ElemNo} {x : Element} (hx : s.elem e = some x) (hsafe : x.stateSafe)
    (t : Throw) (k : Lane) : ∀ y, (s.queueMove e t k).elem e = some y → y.stateSafe :=
  ((State.queueMove_starts hx t k).spares e).stateSafe fun y hy => by
    change s.elem e = some y at hy
    cases hx.symm.trans hy; exact hsafe

theorem State.Place.accounted {s : State} {p : Prop} {e : ElemNo} (h : s.Place p e)
    (hpend : ∀ x, s.elem e = some x → ¬x.mayPend) : s.Place True e := by
  cases h with
  | idle bare moving => exact .idle bare moving fun _ => hpend
  | pending m x entries services pulses elem mayPend => exact absurd mayPend (hpend x elem)
  | serving v x entries services elem mayMove => exact .serving v x entries services elem mayMove

theorem State.Place.accounted_of_entry {s : State} {p : Prop} {e : ElemNo} (h : s.Place p e)
    (he : s.hasEntry e = true ∨ s.hasService e = true) : s.Place True e := by
  rcases he with he | he
  · obtain ⟨m, x, entries, services, elem, mayPend, marked⟩ := h.of_entry he
    refine .pending m x entries services (fun c => ?_) elem mayPend marked
    by_contra hc
    have := h.pulses (c := c) (by simpa using hc)
    rw [State.servicesOf_eq_nil.1 services] at this; cases this
  · obtain ⟨v, x, entries, services, elem, mayMove⟩ := h.of_service he
    exact .serving v x entries services elem mayMove

theorem State.Place.bareAt_of_none {s : State} {p : Prop} {e : ElemNo} (h : s.Place p e) (hentry : s.hasEntry e = false)
    (hserve : s.hasService e = false) : s.bareAt e :=
  ⟨State.entriesOf_eq_nil.2 hentry, State.servicesOf_eq_nil.2 hserve, fun c => by
    by_contra hc
    rw [h.pulses (c := c) (by simpa using hc)] at hserve; cases hserve⟩

/-- A WAITING element has no move once it is withdrawn. -/
theorem State.Place.withdraw_bareAt {s : State} {p : Prop} {e : ElemNo} {x : Element} (h : s.Place p e)
    (hx : s.elem e = some x) (hs : x.state = .waiting) : (s.withdraw e).bareAt e := by
  have hentries : (s.withdraw e).entriesOf e = [] := by rw [State.withdraw_entriesOf, if_pos rfl]
  cases h with
  | idle bare => exact ⟨hentries, bare.services, bare.pulses⟩
  | pending m y entries services pulses => exact ⟨hentries, services, pulses⟩
  | serving v y _ _ elem mayMove =>
    cases hx.symm.trans elem
    rcases mayMove with h' | ⟨h', -⟩ <;> cases hs.symm.trans h'

/-- After the release step at an element every element on its way has its move again (R161). -/
theorem State.restartElem_settledAt {s : State} {e : ElemNo} (hs : s.lawAt e) : (s.restartElem e).settledAt e := by
  cases hx : s.elem e with
  | none =>
    rw [State.restartElem_of_none hx]
    exact ⟨hs.place.accounted fun x h => (nomatch hx.symm.trans h), hs.state⟩
  | some x =>
    have hrested : ∀ {x}, s.elem e = some x → ¬x.mayPend → s.settledAt e := fun hx hp =>
      ⟨hs.place.accounted fun y hy => by cases hx.symm.trans hy; exact hp, hs.state⟩
    rcases State.restartElem_cases hx with ⟨h, heq⟩ | ⟨h, heq⟩ | ⟨h, heq⟩ | ⟨h, heq⟩ | ⟨h, hdue, hentry, hserve, t, -, heq⟩ <;>
      rw [heq]
    · have hrest := Element.atRest_claimed h
      have hb := hs.place.bareAt hx hrest.1 hrest.2
      have helem := s.elem_setElem_self e x.toFree
      exact ⟨.idle ⟨hb.entries, hb.services, hb.pulses⟩ (fun z hz => by cases helem.symm.trans hz; exact nofun)
        fun _ z hz => by cases helem.symm.trans hz; exact (Element.atRest_free rfl).1,
        fun z hz => by cases helem.symm.trans hz; exact x.toFree_stateSafe⟩
    · exact State.release_settledAt (s := s.withdraw e) hx (hs.place.withdraw_bareAt hx h)
    · have hrest : x.atRest := by
        rcases h with h | h | h | ⟨h, -⟩
        · exact Element.atRest_verifying h
        · exact Element.atRest_exposed (.inl h)
        · exact Element.atRest_exposed (.inr h)
        · exact Element.atRest_fault h
      exact State.release_settledAt hx (hs.place.bareAt hx hrest.1 hrest.2)
    · rcases h with h | h | ⟨h, -⟩ | ⟨h, h'⟩
      · exact hrested hx (Element.atRest_free h).1
      · refine hrested hx ?_
        rintro (h' | ⟨h', -⟩) <;> cases h.symm.trans h'
      · exact hrested hx (Element.atRest_fault h).1
      · rcases h' with h' | h' | h' | h'
        · exact hrested hx (Element.atRest_due h h').1
        · exact ⟨hs.place.accounted_of_entry (.inl h'), hs.state⟩
        · exact ⟨hs.place.accounted_of_entry (.inr h'), hs.state⟩
        · have := (hs.state x hx).hasTarget (by simp [h])
          rw [h'] at this; cases this
    · exact ⟨State.queueMove_place hx (hs.place.bareAt_of_none hentry hserve) (.inr ⟨h, hdue⟩) t 7 True,
        State.queueMove_stateSafe hx (hs.state x hx) t 7⟩

/-! ### The end of a warm restart (R161 to R163) -/

theorem Element.dropHold_evolves (cfg : ImageConfig) (x : Element) : x.Evolves cfg (x.dropHold cfg) := by
  unfold Element.dropHold
  split
  · refine Element.Evolves.trans (y := { x with hold := none, commanded := some 0, mismatchRun := 0 }) ?_
      (Element.addWear_evolves cfg 1 _)
    exact (Element.setHold_evolves cfg (.inr rfl)).trans (.of_eq_run rfl (.inr (Nat.zero_le _)))
  · exact .refl cfg x

theorem Element.dropHold_same (cfg : ImageConfig) (x : Element) :
    (x.dropHold cfg).state = x.state ∧ (x.dropHold cfg).verifyDue = x.verifyDue ∧
      (x.stateSafe → (x.dropHold cfg).stateSafe) := by
  unfold Element.dropHold Element.addWear
  split
  · exact ⟨rfl, rfl, fun h => h.of_eq_run rfl (.inr rfl)⟩
  · exact ⟨rfl, rfl, id⟩

/-- The state after the release step at every element. -/
def State.restartElems (s : State) : State :=
  (s.forElems allElems State.restartElem).forElems allElems (fun e s => s.modElem e (Element.dropHold s.config))

theorem State.releaseStep_eq (s : State) : s.releaseStep =
    ((s.restartElems.clearForRestart.enqueue (.notice .started none 0)).startUnheld).grants := rfl

theorem State.dropHold_evolves (s : State) (e : ElemNo) :
    Evolves s (s.modElem e (Element.dropHold s.config)) := by
  unfold State.modElem
  split
  next x hx => exact s.setElem_evolves hx (x.dropHold_evolves _)
  next => exact .refl s

theorem State.restartElems_evolves (s : State) : Evolves s s.restartElems :=
  (Evolves.foldl (fun s e => State.restartElem_evolves e s) _ _).trans
    (Evolves.foldl State.dropHold_evolves _ _)

theorem State.dropHold_spares (e : ElemNo) (s : State) (f : ElemNo) (hf : f ≠ e) :
    State.Spares f s (s.modElem e (Element.dropHold s.config)) := by
  unfold State.modElem
  split
  · exact State.setElem_spares _ hf
  · exact .refl f s

/-- The release step at one element: the state on which its own part works, the state on which its hold is dropped, and
what stands after all. -/
theorem State.restartElems_split (s : State) (e : ElemNo) :
    ∃ u v, ArbFrame s u ∧ State.Spares e s u ∧ State.Spares e (u.restartElem e) v ∧ ArbFrame s v ∧
      State.Spares e (v.modElem e (Element.dropHold v.config)) s.restartElems := by
  obtain ⟨u, hframe, hspares, hframe', hspares'⟩ := State.forElems_split
    (fun e s => (State.restartElem_touches e s).frame) State.restartElem_spares allElems_nodup (mem_allElems e) s
  obtain ⟨v, kframe, kspares, -, kspares'⟩ := State.forElems_split (f := fun e s => s.modElem e (Element.dropHold s.config))
    (fun e s => (s.modElem_arb e _).frame) State.dropHold_spares allElems_nodup (mem_allElems e)
    (s.forElems allElems State.restartElem)
  exact ⟨u, v, hframe, hspares, hspares'.trans hframe' kspares,
    ((hframe.trans (State.restartElem_touches e u).frame).trans hframe').trans kframe, kspares'⟩

theorem State.dropHold_settledAt {s : State} {e : ElemNo} (hs : s.settledAt e) :
    (s.modElem e (Element.dropHold s.config)).settledAt e := by
  unfold State.modElem
  split
  next x hx =>
    obtain ⟨hstate, hdue, hsafe⟩ := x.dropHold_same s.config
    refine ⟨hs.place.setElem_sameState hx (x.dropHold_evolves _).cls hstate hdue, fun y hy => ?_⟩
    cases (s.elem_setElem_self e _).symm.trans hy
    exact hsafe (hs.state x hx)
  next => exact hs

theorem State.restartElems_settledAt {s : State} (hs : s.lawful) (e : ElemNo) : s.restartElems.settledAt e := by
  obtain ⟨u, v, hframe, hspares, hspares', -, hspares''⟩ := s.restartElems_split e
  exact hspares''.settledAt (State.dropHold_settledAt (hspares'.settledAt
    (State.restartElem_settledAt (hspares.lawAt hframe (hs e)))))

theorem State.clearForRestart_spares (s : State) (e : ElemNo) : State.Spares e s s.clearForRestart :=
  .of_eq e rfl rfl rfl rfl rfl

/-- At the end of a restart the laws of the arbiter hold in full again. -/
theorem State.clearForRestart_lawful {s : State} (hs : ∀ e, s.settledAt e) : s.clearForRestart.lawful := fun e => by
  have hspares := s.clearForRestart_spares e
  exact ⟨(hspares.place (hs e).place).mono fun _ => trivial, (hs e).state, nofun, nofun⟩

theorem State.clearForRestart_evolves (s : State) : Evolves s s.clearForRestart :=
  ⟨rfl, fun _ => Option.Rel.evolves_refl _ _, fun _ h => absurd rfl h, nofun⟩

/-- The state in which the moves that can start are started, at the end of a restart. -/
def State.restarted (s : State) : State := s.restartElems.clearForRestart.enqueue (.notice .started none 0)

theorem State.restarted_arbSame (s : State) : ArbSame s.restartElems.clearForRestart s.restarted :=
  State.enqueue_arbSame _ _

theorem State.restarted_lawful {s : State} (hs : s.lawful) : s.restarted.lawful :=
  s.restarted_arbSame.calm.lawful (State.clearForRestart_lawful (State.restartElems_settledAt hs))

theorem State.restarted_running (s : State) : s.restarted.nodeState = .running := s.restarted_arbSame.nodeState

theorem State.releaseStep_starts {s : State} (hs : s.lawful) : Starts s.restarted s.releaseStep :=
  State.startAll_starts s.restarted_running (State.restarted_lawful hs).nodup

theorem State.releaseStep_sound (s : State) : Sound s s.releaseStep := by
  have hstart : s.restarted.nodeState ≠ .starting := by rw [s.restarted_running]; nofun
  exact ⟨(((s.restartElems_evolves.trans (State.clearForRestart_evolves _)).trans s.restarted_arbSame.calm.toEvolves).trans
    (State.startUnheld_evolves hstart)).trans (State.grants_starts _).evolves,
    fun hs => (State.releaseStep_starts hs).lawful (State.restarted_lawful hs),
    fun hs _ => State.startAll_quiet (State.restarted_lawful hs).known⟩

/-- The release step takes every exposed element out of SET and LIVE (R161). -/
theorem State.releaseStep_not_exposed {s : State} (hs : s.lawful) {e : ElemNo} {x : Element} (hx : s.elem e = some x)
    (hexp : x.exposed = true) : ∀ y, s.releaseStep.elem e = some y → y.exposed = false := by
  obtain ⟨u, v, hframe, hspares, hspares', -, hspares''⟩ := s.restartElems_split e
  have hstate := Element.exposed_iff.1 hexp
  have hrest := Element.atRest_exposed hstate
  obtain ⟨helem, -⟩ := hspares.of_bareAt ((hs e).place.bareAt hx hrest.1 hrest.2)
  have hrelease : ∀ y, (u.restartElem e).elem e = some y → y.exposed = false := by
    rw [State.restartElem_released (helem.trans hx) (by rcases hstate with h | h <;> simp [h])]
    exact State.release_not_exposed (helem.trans hx)
  have hdropped : ∀ y, (v.modElem e (Element.dropHold v.config)).elem e = some y → y.exposed = false := fun y hy => by
    rw [State.elem_modElem, if_pos rfl] at hy
    obtain ⟨z, hz, rfl⟩ := Option.map_eq_some_iff.1 hy
    rw [Element.exposed, (z.dropHold_same v.config).1]
    exact hspares'.not_exposed hrelease z hz
  refine ((State.releaseStep_starts hs).spares e).not_exposed ?_
  exact (s.restarted_arbSame.spares e).not_exposed
    ((s.restartElems.clearForRestart_spares e).not_exposed (hspares''.not_exposed hdropped))

theorem execRestartReleaseStep_sound (s : State) : Leads Sound s (execRestartReleaseStep s) := by
  unfold execRestartReleaseStep
  split
  · split
    · exact .next s.releaseStep_sound
    · exact .next (Calm.refl s).toTame.sound
  · exact .next (Calm.refl s).toTame.sound

/-! ### The image and the cold start -/

theorem imageByte_le (image : List Byte) (i : Nat) : imageByte image i ≤ 255 := Nat.le_of_lt_succ (BitVec.isLt _)

/-- The figures of an image lie in the ranges of section 11.3 (R168). -/
theorem imageConfig_figuresSafe (image : List Byte) : (imageConfig image).figuresSafe := by
  have hsetup := imageByte_le image 5
  refine ⟨Nat.min_le_left _ _, ⟨Nat.le_max_left _ _, ?_⟩, ⟨?_, ?_, ?_, ?_⟩, Nat.min_le_left _ _, Nat.min_le_left _ _,
    Nat.min_le_left _ _⟩
  all_goals simp only [imageConfig, clampPulse]; omega

/-- The records of an image keep the law of a record (R5, R23). -/
theorem imageElement_recordSafe (image : List Byte) (e : Nat) :
    (imageElement image e).recordSafe (imageConfig image) := by
  have h3 := imageByte_le image (entryAt e + 3)
  have h4 := imageByte_le image (entryAt e + 4)
  have h5 := imageByte_le image (entryAt e + 4 + 1)
  refine ⟨Nat.le_refl _, ?_, warningOf_iff _ _ _, fun _ => rfl, ?_, Nat.zero_le _, imageConfig_figuresSafe image⟩
  · simp only [imageElement, imageWord, Config.wearMax]
    omega
  · simp only [imageElement]
    split <;> simp_all

theorem imageElement_stateSafe (image : List Byte) (e : Nat) : (imageElement image e).stateSafe := by
  constructor <;> simp [imageElement]

theorem State.acceptImage_elem (s : State) (image : List Byte) (e : ElemNo) :
    (s.acceptImage image).elem e = if e.val < imageByte image 2 then some (imageElement image e) else none := by
  simp [State.elem, State.acceptImage, imageElems]

/-- A node in STARTING takes the records of its image, each FREE and without a move. -/
theorem State.acceptImage_lawful {s : State} (hn : s.nodeState = .starting) (hs : s.lawful) (image : List Byte) :
    (s.acceptImage image).lawful := fun e => by
  have hfree : ∀ x, (s.acceptImage image).elem e = some x → x = imageElement image e := fun x hx => by
    rw [State.acceptImage_elem] at hx
    split at hx
    · exact (Option.some.inj hx).symm
    · cases hx
  have hbare : s.bareAt e := by
    have hnone := (hs e).start hn
    cases (hs e).place with
    | idle bare => exact bare
    | pending _ _ _ _ _ elem => cases hnone.symm.trans elem
    | serving _ _ _ _ elem => cases hnone.symm.trans elem
  exact ⟨.idle ⟨hbare.entries, hbare.services, hbare.pulses⟩ (fun x hx => hfree x hx ▸ nofun)
    fun _ x hx => hfree x hx ▸ (Element.atRest_free rfl).1, fun x hx => hfree x hx ▸ imageElement_stateSafe image e,
    fun _ x hx => hfree x hx ▸ rfl, nofun⟩

theorem State.refuseImage_sound (s : State) : Sound s s.refuseImage := by
  refine Sound.trans (t := { s with nodeState := .configFault, loader := .ended, spi := { s.spi with selected := false }
                                    startUpDrive := false, lineState := .seeking })
    ⟨⟨rfl, fun _ => Option.Rel.evolves_refl _ _, fun _ h => absurd rfl h, nofun⟩, fun hs e => ?_, fun _ _ =>
      ⟨(fun h => nomatch h.1), (fun h => nomatch h.1)⟩⟩ (State.capture_arbSame _ .configBad none none).calm.toTame.sound
  have hspares : State.Spares e s { s with
      nodeState := .configFault, loader := .ended, spi := { s.spi with selected := false }
      startUpDrive := false, lineState := .seeking } := .of_eq e rfl rfl rfl rfl rfl
  exact ⟨hspares.place (hs e).place, (hs e).state, nofun, nofun⟩

theorem State.coldStart_lawful (s : State) : s.coldStart.lawful := fun e => by
  have hreset : State.reset.lawful := State.reset_arbiterSafe.lawful fun e x h => by simp at h
  exact (State.Spares.of_eq (s := State.reset) (t := s.coldStart) e rfl rfl rfl rfl rfl).lawAt_of rfl id (hreset e)

/-! ### COLD -/

theorem State.seeCold_tame (s : State) (h : Handle) (p : ColdPurpose) : Tame s (s.seeCold h p) := by
  have hcool := (s.coolElems_calm h).toTame
  unfold State.seeCold
  dsimp only
  split
  · exact hcool
  · split
    · exact hcool
    · split
      next x hx => exact hcool.trans (State.stepElem_worksAt hx _ _ _).tame
      next => exact hcool

theorem execFrameSeenCold_tame (s : State) : Leads Tame s (execFrameSeenCold s) := by
  unfold execFrameSeenCold
  split
  · exact .next_ite (fun _ => s.popFrame_arbSame.calm.toTame.trans (State.seeCold_tame _ _ _))
      fun _ => s.popFrame_arbSame.calm.toTame
  · exact .next (.refl s)

theorem execFrameSeenRelease_sound (s : State) : Leads Sound s (execFrameSeenRelease s) := by
  have hpop := s.popFrame_arbSame.calm.toTame.sound
  unfold execFrameSeenRelease
  split
  · refine .next_ite (fun _ => (hpop.trans (State.releaseHandle_sound _ _)).trans
      (State.ownRelease_arbSame _ _ _).calm.toTame.sound) fun _ => ?_
    split
    · exact hpop.trans (State.accountOwn_arbSame _ _ _).calm.toTame.sound
    · exact hpop
  · exact .next (Calm.refl s).toTame.sound

theorem execSenseGroupRead_sound (contacts : List ThrowSet) (s : State) :
    Leads Sound s (execSenseGroupRead contacts s) := by
  unfold execSenseGroupRead
  split
  · exact .next (s.readGroup_sound contacts)
  · exact .next (Calm.refl s).toTame.sound

/-! ### Every command -/

/-- The commands that leave every exposed element in SET and LIVE. -/
theorem exec_calm {c : Instr} (s : State) (hreset : c ≠ .resetLow) (himage : ∀ image, c ≠ .imageReadDone image)
    (hread : ∀ contacts, c ≠ .senseGroupRead contacts) (hcold : c ≠ .frameSeenCold) (hrelease : c ≠ .frameSeenRelease)
    (hend : c ≠ .restartReleaseStep) : Leads Calm s (exec c s) := by
  cases c with
  | resetLow => exact absurd rfl hreset
  | resetHigh straps => exact execResetHigh_calm straps s
  | imageReadDone image => exact absurd rfl (himage image)
  | senseGroupRead contacts => exact absurd rfl (hread contacts)
  | moveDExpires e => exact execMoveDExpires_calm e s
  | cascadeFrontPulseEnd ch => exact execCascadeFrontPulseEnd_calm ch s
  | cascadeGapEnd ch => exact execCascadeGapEnd_calm ch s
  | pulsingEnd ch => exact execPulsingEnd_calm ch s
  | channelRecoveryEnd ch => exact execChannelRecoveryEnd_calm ch s
  | coilokRise => exact execCoilokRise_calm s
  | coilokFall => exact execCoilokFall_calm s
  | tentativeClaimTimerExpiry h => exact execTentativeClaimTimerExpiry_calm h s
  | setupStepTimerExpiry g => exact execSetupStepTimerExpiry_calm g s
  | quenchTimerExpiryRelease g => exact execQuenchTimerExpiryRelease_calm g s
  | quenchTimerExpiryStep g => exact execQuenchTimerExpiryStep_calm g s
  | resumeTimerExpiry g => exact execResumeTimerExpiry_calm g s
  | triggerEdge g => exact execTriggerEdge_calm g s
  | quenchAssertionSensed => exact execQuenchAssertionSensed_calm s
  | quenchReleaseSensed => exact execQuenchReleaseSensed_calm s
  | lineIdleResync => exact execLineIdleResync_calm s
  | txAttemptStart => exact execTxAttemptStart_calm s
  | arbitrationLost => exact execArbitrationLost_calm s
  | arbitrationWon => exact execArbitrationWon_calm s
  | frameEnd frame flagged => exact execFrameEnd_calm frame flagged s
  | frameSeenRoute => exact execFrameSeenRoute_calm s
  | frameSeenRouteExt => exact execFrameSeenRouteExt_calm s
  | frameSeenAccept => exact execFrameSeenAccept_calm s
  | frameSeenRefuse => exact execFrameSeenRefuse_calm s
  | frameSeenHopstat => exact execFrameSeenHopstat_calm s
  | frameSeenHot => exact execFrameSeenHot_calm s
  | frameSeenCold => exact absurd rfl hcold
  | frameSeenRelease => exact absurd rfl hrelease
  | frameSeenBreak => exact execFrameSeenBreak_calm s
  | frameSeenScan => exact execFrameSeenScan_calm s
  | frameSeenAdvance => exact execFrameSeenAdvance_calm s
  | frameSeenDrop => exact execFrameSeenDrop_calm s
  | frameSeenLanehold => exact execFrameSeenLanehold_calm s
  | frameSeenQuery => exact execFrameSeenQuery_calm s
  | frameSeenReport => exact execFrameSeenReport_calm s
  | frameSeenNotice => exact execFrameSeenNotice_calm s
  | frameSeenClearfault => exact execFrameSeenClearfault_calm s
  | frameSeenRestart => exact execFrameSeenRestart_calm s
  | teardownFrameQueued => exact execTeardownFrameQueued_calm s
  | restartWithdrawalStep => exact execRestartWithdrawalStep_calm s
  | restartReleaseStep => exact absurd rfl hend
  | overLongFrame => exact execOverLongFrame_calm s

/-- Every command but a cold start and the end of an image read keeps the laws. -/
theorem exec_sound {c : Instr} (s : State) (hreset : c ≠ .resetLow) (himage : ∀ image, c ≠ .imageReadDone image) :
    Leads Sound s (exec c s) := by
  by_cases hread : ∃ contacts, c = .senseGroupRead contacts
  · obtain ⟨contacts, rfl⟩ := hread
    exact execSenseGroupRead_sound contacts s
  by_cases hcold : c = .frameSeenCold
  · subst hcold
    obtain ⟨t, ht, h⟩ := execFrameSeenCold_tame s
    exact ⟨t, ht, h.sound⟩
  by_cases hrelease : c = .frameSeenRelease
  · subst hrelease
    exact execFrameSeenRelease_sound s
  by_cases hend : c = .restartReleaseStep
  · subst hend
    exact execRestartReleaseStep_sound s
  obtain ⟨t, ht, h⟩ := exec_calm s hreset himage (fun contacts h => hread ⟨contacts, h⟩) hcold hrelease hend
  exact ⟨t, ht, h.toTame.sound⟩

/-! ### The laws of records and of control inputs -/

theorem Evolves.recordsSafe {s t : State} (h : Evolves s t) (hs : s.recordsSafe) : t.recordsSafe := fun e y hy => by
  have hrel := h.elems e
  rw [hy] at hrel
  rw [h.config]
  revert hrel
  cases hx : s.elem e with
  | none => nofun
  | some x => rintro ⟨hxy⟩; exact hxy.record (hs e x hx)

theorem Evolves.controlsSafe {s t : State} (h : Evolves s t) (hs : s.controlsSafe) : t.controlsSafe := by
  refine ⟨fun e he => ?_, fun hn e => ?_⟩
  · have hcls : ∃ x, s.elem e = some x ∧ x.cls = .solidState := by
      by_cases hsame : t.control e = s.control e
      · exact hs.only e (hsame ▸ he)
      · exact (h.controls e hsame).2
    obtain ⟨x, hx, hcls⟩ := hcls
    have hrel := h.elems e
    rw [hx] at hrel
    revert hrel
    cases hy : t.elem e with
    | none => nofun
    | some y => rintro ⟨hxy⟩; exact ⟨y, rfl, hxy.cls.trans hcls⟩
  · by_contra he
    by_cases hsame : t.control e = s.control e
    · exact he (hsame.trans (hs.start (h.starting hn) e))
    · exact (h.controls e hsame).1 hn

theorem State.acceptImage_recordsSafe (s : State) (image : List Byte) : (s.acceptImage image).recordsSafe :=
  fun e x hx => by
    rw [State.acceptImage_elem] at hx
    split at hx
    · cases hx; exact imageElement_recordSafe image e
    · cases hx

theorem State.acceptImage_controlsSafe {s : State} (hn : s.nodeState = .starting) (hs : s.controlsSafe)
    (image : List Byte) : (s.acceptImage image).controlsSafe :=
  ⟨fun e he => absurd (hs.start hn e) he, nofun⟩

/-- Every law of O54, O55 and O60, of one command. -/
structure KeepsElemLaws (s t : State) : Prop where
  lawful   : s.lawful → t.lawful
  records  : s.recordsSafe → t.recordsSafe
  controls : s.controlsSafe → t.controlsSafe
  quiet    : s.lawful → s.quiet → t.quiet

theorem Sound.keepsElemLaws {s t : State} (h : Sound s t) : KeepsElemLaws s t :=
  ⟨h.lawful, h.toEvolves.recordsSafe, h.toEvolves.controlsSafe, h.quiet⟩

theorem exec_keepsElemLaws (c : Instr) (s : State) : Leads KeepsElemLaws s (exec c s) := by
  by_cases hreset : c = .resetLow
  · subst hreset
    refine .next ⟨fun _ => s.coldStart_lawful, fun _ e x hx => ?_, fun _ => ⟨fun e he => ?_, fun _ => State.reset_control⟩,
      fun _ _ => ⟨fun h => State.reset_not_running h.1, fun h => State.reset_not_running h.1⟩⟩
    · cases (State.reset_elem e).symm.trans hx
    · exact absurd (State.reset_control e) he
  by_cases himage : ∃ image, c = .imageReadDone image
  · obtain ⟨image, rfl⟩ := himage
    change Leads KeepsElemLaws s (execImageReadDone image s)
    unfold execImageReadDone
    split
    next h =>
      refine .next_ite (fun _ => ?_) fun _ => s.refuseImage_sound.keepsElemLaws
      exact ⟨fun hs => State.acceptImage_lawful h.1 hs image, fun _ => s.acceptImage_recordsSafe image,
        fun hs => State.acceptImage_controlsSafe h.1 hs image, fun _ _ => ⟨(fun h => nomatch h.1), (fun h => nomatch h.1)⟩⟩
    next => exact .next (Calm.refl s).toTame.sound.keepsElemLaws
  obtain ⟨t, ht, h⟩ := exec_sound s hreset fun image h => himage ⟨image, h⟩
  exact ⟨t, ht, h.keepsElemLaws⟩

/-- The laws do not speak of the queue of commands. -/
theorem State.setPending_arbSame (s : State) (cs : List Instr) : ArbSame s { s with pending := cs } := .of_eq rfl

theorem step_keepsElemLaws {s t : State} (h : step s = .next t) : KeepsElemLaws s t := by
  unfold step at h
  split at h
  · cases h
    exact (s.elapse_calm 1).toTame.sound.keepsElemLaws
  next c cs _ =>
    have hpending := (s.setPending_arbSame cs).calm.toTame.sound.keepsElemLaws
    have hexec := (exec_keepsElemLaws c _).of_next h
    exact ⟨hexec.lawful ∘ hpending.lawful, hexec.records ∘ hpending.records, hexec.controls ∘ hpending.controls,
      fun hs hq => hexec.quiet (hpending.lawful hs) (hpending.quiet hs hq)⟩

/-- Settles O54: the laws of the arbiter and of element states, element by element, of each command in turn. -/
theorem stepKeepsArbiterAndStates : Obligations.StepKeepsArbiterAndStates := by
  intro s t h harb hstates
  have hlawful := (step_keepsElemLaws h).lawful (harb.lawful hstates)
  exact ⟨hlawful.arbiterSafe, hlawful.statesSafe⟩

/-- Settles O60: after each command the grants and starts that it frees have been made. -/
theorem stepLeavesNothingToStart : Obligations.StepLeavesNothingToStart := by
  intro s t h harb hstates hgrant hstart
  exact (step_keepsElemLaws h).quiet (harb.lawful hstates) ⟨hgrant, hstart⟩

theorem Option.Rel.related {α : Type} {R : α → α → Prop} {o o' : Option α} (h : Option.Rel R o o') :
    o'.isSome = o.isSome ∧ ∀ x, o = some x → ∀ y, o' = some y → R x y := by
  cases h with
  | none => exact ⟨rfl, nofun⟩
  | some hxy => exact ⟨rfl, fun x hx y hy => by cases hx; cases hy; exact hxy⟩

/-- Settles O55: each command keeps the laws of records and control inputs, and only lets records evolve. -/
theorem stepKeepsElementRecords : Obligations.StepKeepsElementRecords := by
  refine ⟨fun s t h => ⟨(step_keepsElemLaws h).records, (step_keepsElemLaws h).controls⟩, ?_⟩
  intro c s t h hreset himage hrecords e
  obtain ⟨hsome, hrel⟩ := Option.Rel.related (((exec_sound s hreset himage).of_next h).elems e)
  refine ⟨hsome, fun x hx y hy => ?_⟩
  have hxy := hrel x hx y hy
  exact ⟨hxy.cls, hxy.throws, hxy.cascaded, hxy.park, hxy.baseWear, (hxy.wear (hrecords e x hx).bound).1⟩

end Sys2Proof.Machine
end

section
/-!
PROOFS. Cold switching: what becomes of an exposed element at every command (O57).
-/

namespace Sys2Proof.Machine

/-- The element is not exposed. -/
def State.coveredAt (s : State) (e : ElemNo) : Prop := ∀ y, s.elem e = some y → y.exposed = false

/-! ### The commands that can take an exposed element out of SET and LIVE -/

theorem ArbSame.coveredAt {s t : State} (h : ArbSame s t) {e : ElemNo} (hs : s.coveredAt e) : t.coveredAt e :=
  (h.spares e).not_exposed hs

theorem Calm.stays_of {s t : State} (h : Calm s t) (hs : s.lawful) (e : ElemNo) : State.Stays e s t := h.stays hs e

/-- A COLD step leaves its element as it is, or sends it on its way (R108). -/
theorem State.stepElem_exposed {s : State} {e : ElemNo} {x : Element} (hexp : x.exposed = true) (h : Handle) (k : HopNo) (t : Throw) :
    State.Stays e s (s.stepElem h k t e x) ∨ (s.stepElem h k t e x).coveredAt e := by
  have hstat : ∀ m st r w, State.Stays e s (s.hopstat h m st r w) := fun m st r w =>
    have hsame := s.hopstat_arbSame h m st r w
    .of_eq (State.elem_congr hsame.elems e) (by rw [State.control, hsame.controls]; rfl)
  have heq : s.stepElem h k t e x = if x.throws ≤ t.val then s.hopstat h (hopBit k) .refused .badThrow false
      else if x.commanded = some t then s.hopstat h (hopBit k) .ready .none x.wearWarning
      else (s.setElem e { x with state := .waiting, target := some t, stepTarget := true, retry := false }).queueMove
        e t ((x.owner.map (·.lane)).getD 7) := by
    rcases Element.exposed_iff.1 hexp with hs | hs <;> simp [State.stepElem, hs]
  rw [heq]
  split
  · exact .inl (hstat _ _ _ _)
  · split
    · exact .inl (hstat _ _ _ _)
    · refine .inr (((State.queueMove_starts (s.elem_setElem_self e _) _ _).spares e).not_exposed fun y hy => ?_)
      cases (s.elem_setElem_self e _).symm.trans hy
      rfl

theorem Element.seeCold_owner (h : Handle) (x : Element) : (x.seeCold h).owner = x.owner := by
  obtain heq | ⟨-, heq⟩ := x.seeCold_cases h <;> rw [heq]
  rfl

theorem State.elem_coolElems (s : State) (h : Handle) (e : ElemNo) :
    (s.coolElems h).elem e = (s.elem e).map (Element.seeCold h) := s.elem_forAll _ e

/-- The element that holds a hop of a handle has that handle and hop. -/
theorem State.hopElem_some {s : State} {h : Handle} {k : HopNo} {e : ElemNo} (he : s.hopElem h k = some e) :
    ∃ x o, s.elem e = some x ∧ x.owner = some o ∧ o.handle = h ∧ o.hop = k := by
  have hp := List.find?_some he
  split at hp
  next o ho =>
    obtain ⟨x, hx, hxo⟩ := Option.bind_eq_some_iff.1 ho
    simp only [Bool.and_eq_true, beq_iff_eq] at hp
    exact ⟨x, o, hx, hxo, hp.1, hp.2⟩
  next => cases hp

theorem State.fromAnchor_iff {s : State} {a : Address} {h : Handle} :
    s.fromAnchor a h = true ↔ s.nodeState = .running ∧ a = h.anchor := by simp [State.fromAnchor]

theorem State.seeCold_step (s : State) (h : Handle) (k : HopNo) (t : Throw) : s.seeCold h (.step k t) =
    match (s.coolElems h).hopElem h k with
    | some e =>
      match (s.coolElems h).elem e with
      | some x => (s.coolElems h).stepElem h k t e x
      | none => s.coolElems h
    | none => s.coolElems h := by
  unfold State.seeCold
  generalize s.coolElems h = u
  dsimp only
  cases u.hopElem h k with
  | none => rfl
  | some e => cases u.elem e <;> rfl

/-- A COLD takes only the element that holds the hop of its step out of SET and LIVE. -/
theorem State.seeCold_exposed {s : State} (hs : s.lawful) {e : ElemNo} {x : Element} (hx : s.elem e = some x)
    (hexp : x.exposed = true) (h : Handle) (p : ColdPurpose) :
    State.Stays e s (s.seeCold h p) ∨ (s.seeCold h p).coveredAt e ∧
      ∃ o t, x.owner = some o ∧ o.handle = h ∧ p = .step o.hop t := by
  have hcool := s.coolElems_calm h
  have hstays := hcool.stays hs e
  cases p with
  | all => exact .inl hstays
  | step k t =>
    cases hhop : (s.coolElems h).hopElem h k with
    | none =>
      have heq : s.seeCold h (.step k t) = s.coolElems h := by rw [State.seeCold_step, hhop]
      rw [heq]
      exact .inl hstays
    | some e₀ =>
      obtain ⟨y, o, hy, ho, hhandle, hk⟩ := State.hopElem_some hhop
      have heq : s.seeCold h (.step k t) = (s.coolElems h).stepElem h k t e₀ y := by rw [State.seeCold_step, hhop]; dsimp only; rw [hy]
      rw [heq]
      by_cases he : e = e₀
      · subst he
        obtain ⟨y', hy', hexp', -⟩ := hstays x hx hexp
        cases hy.symm.trans hy'
        rcases State.stepElem_exposed hexp' h k t with hstep | hstep
        · exact .inl (hstays.trans hstep)
        · refine .inr ⟨hstep, o, t, ?_, hhandle, by rw [hk]⟩
          rw [State.elem_coolElems, hx] at hy
          obtain rfl : x.seeCold h = y := Option.some.inj hy
          rw [← x.seeCold_owner h, ho]
      · exact .inl (hstays.trans (((State.stepElem_worksAt hy h k t).spares e he).stays (hcool.lawful hs e).place))

/-- A group read takes out of SET and LIVE only an element that it reads for the second time with another value than
its commanded throw (R63, R64). -/
theorem State.readGroup_exposed {s : State} (hs : s.lawful) {e : ElemNo} {x : Element} (hx : s.elem e = some x)
    (hexp : x.exposed = true) (contacts : List ThrowSet) :
    State.Stays e s (s.readGroup contacts) ∨ (s.readGroup contacts).coveredAt e ∧
      e.val / 8 = s.scanReads % 2 ∧ x.mismatchRun ≠ 0 ∧
      x.commanded.map Sensed.throw ≠ some (sensedOf x.throws (contacts.getD (e.val % 8) 0)) ∧
      ((s.readGroup contacts).elem e).any (fun y => y.state == .fault) = true := by
  have hstored := s.afterStore_calm contacts
  have hstays := hstored.stays hs e
  have hframe : ∀ e s, ArbFrame s (State.judge e s) := fun e s => (s.judge_worksAt e).frame
  have hspares : ∀ e s f, f ≠ e → State.Spares f s (State.judge e s) := fun e s => (s.judge_worksAt e).spares
  have hplace := (hstored.lawful hs e).place
  have hnode : ((s.afterStore contacts).forElems (groupElems s.nextGroup) State.judge).nodeState = s.nodeState := by
    have htouch : ∀ (l : List ElemNo) (u : State), (u.forElems l State.judge).nodeState = u.nodeState := by
      intro l
      induction l with
      | nil => exact fun _ => rfl
      | cons a l ih => exact fun u => (ih _).trans (hframe a u).nodeState
    exact htouch _ _
  have heq : s.readGroup contacts = (s.afterStore contacts).forElems (groupElems s.nextGroup) State.judge := by
    rw [State.readGroup_eq, if_neg]
    rintro ⟨hn, -⟩
    rw [hnode] at hn
    simp [Element.exposed, (hs e).seed hn x hx] at hexp
  rw [heq]
  by_cases hgroup : e ∈ groupElems s.nextGroup
  · obtain ⟨u, uframe, uspares, -, tspares⟩ := State.forElems_split hframe hspares (groupElems_nodup _) hgroup
      (s.afterStore contacts)
    obtain ⟨y, hy, hyexp, hcommanded, -, -⟩ := hstays x hx hexp
    have hrest := Element.atRest_exposed (Element.exposed_iff.1 hyexp)
    obtain ⟨helem, -⟩ := uspares.of_bareAt (hplace.bareAt hy hrest.1 hrest.2)
    have hu := helem.trans hy
    have hulaw := uspares.lawAt uframe (hstored.lawful hs e)
    rcases State.judge_of_exposed hu hyexp with hjudge | ⟨hmatch, hrun, hfault⟩
    · exact .inl (((hstays.trans (uspares.stays hplace)).trans hjudge).trans
        (tspares.stays ((u.judge_worksAt e).lawAt hulaw).place))
    · have hgroup' : e.val / 8 = s.scanReads % 2 := (mem_groupElems (Nat.mod_lt _ (by decide))).1 hgroup
      have hyx : y = { x.elapse s.untilRead with sensed := sensedOf x.throws (contacts.getD (e.val % 8) 0) } := by
        rw [State.afterStore_elem, State.elem_elapse, hx] at hy
        simp only [Option.map_some, if_pos hgroup'] at hy
        exact (Option.some.inj hy).symm
      refine .inr ⟨tspares.not_exposed fun z hz => ?_, hgroup', ?_, ?_, ?_⟩
      · cases hfault.symm.trans hz; rfl
      · rw [hyx] at hrun; exact hrun
      · intro h
        obtain ⟨t, ht, hsensed⟩ := Option.map_eq_some_iff.1 h
        rw [hyx] at hmatch
        simp [Element.readMatches, Element.elapse, ht, hsensed] at hmatch
      · cases tspares with
        | same elem => rw [elem, hfault]; rfl
        | started m z _ _ before _ _ elem =>
          cases hfault.symm.trans before
          rw [elem, Option.any_some, Element.startMove_state]
          rfl
  · exact .inl (hstays.trans ((State.forElems_spares hframe hspares _ _ hgroup).2.stays hplace))

/-! ### Every command -/

/-- The causes for which an exposed element leaves SET and LIVE (section 2.3). -/
def LeavesPath (c : Instr) (s t : State) (e : ElemNo) (x : Element) : Prop :=
  c = .resetLow ∨
  (∃ contacts, c = .senseGroupRead contacts ∧ e.val / 8 = s.scanReads % 2 ∧ x.mismatchRun ≠ 0 ∧
    x.commanded.map Sensed.throw ≠ some (sensedOf x.throws (contacts.getD (e.val % 8) 0)) ∧
    (t.elem e).any (fun y => y.state == .fault) = true) ∨
  (c = .frameSeenCold ∧ s.nodeState = .running ∧ ∃ o, x.owner = some o ∧ ∃ k : Throw,
    s.headFrame = some ⟨o.handle.anchor, .cold o.handle (.step o.hop k)⟩) ∨
  (c = .frameSeenRelease ∧ s.nodeState = .running ∧ ∃ o, x.owner = some o ∧ ∃ r : ReasonCode,
    s.headFrame = some ⟨o.handle.anchor, .release o.handle r⟩) ∨
  c = .restartReleaseStep ∧ s.services = [] ∧ s.restart.any (·.withdrawn) = true

section
variable {s : State} (hs : s.lawful) {e : ElemNo} {x : Element} (hx : s.elem e = some x) (hexp : x.exposed = true)
include hs hx hexp

theorem execFrameSeenCold_exposed : Leads (fun s t => State.Stays e s t ∨ t.coveredAt e ∧
    LeavesPath .frameSeenCold s t e x) s (execFrameSeenCold s) := by
  have hpop := s.popFrame_arbSame.calm
  unfold execFrameSeenCold
  split
  next sender h p hhead =>
    refine .next_ite (fun hfrom => ?_) fun _ => .inl (hpop.stays hs e)
    obtain ⟨hrunning, rfl⟩ := State.fromAnchor_iff.1 hfrom
    have hx' : s.popFrame.elem e = some x := hx
    rcases State.seeCold_exposed (hpop.lawful hs) hx' hexp h p with hstays | ⟨hcovered, o, t, ho, rfl, rfl⟩
    · exact .inl ((hpop.stays hs e).trans hstays)
    · exact .inr ⟨hcovered, .inr (.inr (.inl ⟨rfl, hrunning, o, ho, t, hhead⟩))⟩
  next => exact .next (.inl ((Calm.refl s).stays hs e))

theorem execFrameSeenRelease_exposed : Leads (fun s t => State.Stays e s t ∨ t.coveredAt e ∧
    LeavesPath .frameSeenRelease s t e x) s (execFrameSeenRelease s) := by
  have hpop := s.popFrame_arbSame.calm
  unfold execFrameSeenRelease
  split
  next sender h r hhead =>
    refine .next_ite (fun hfrom => ?_) fun _ => .inl ?_
    · obtain ⟨hrunning, rfl⟩ := State.fromAnchor_iff.1 hfrom
      have hown := State.ownRelease_arbSame (s.popFrame.releaseHandle h) h.anchor h
      have hx' : s.popFrame.elem e = some x := hx
      rcases State.releaseHandle_of_exposed (hpop.lawful hs) h hx' hexp with hstays | ⟨ho, hcovered⟩
      · exact .inl (((hpop.stays hs e).trans hstays).trans
          (hown.calm.stays (State.releaseHandle_lawful h (hpop.lawful hs)) e))
      · refine .inr ⟨hown.coveredAt hcovered, .inr (.inr (.inr (.inl ⟨rfl, hrunning, ?_⟩)))⟩
        unfold Element.ownedBy at ho
        split at ho
        next o hxo =>
          obtain rfl : o.handle = h := by simpa using ho
          exact ⟨o, hxo, r, hhead⟩
        next => cases ho
    · split
      · exact (hpop.trans (State.accountOwn_arbSame _ _ _).calm).stays hs e
      · exact hpop.stays hs e
  next => exact .next (.inl ((Calm.refl s).stays hs e))

theorem execRestartReleaseStep_exposed : Leads (fun s t => State.Stays e s t ∨ t.coveredAt e ∧
    LeavesPath .restartReleaseStep s t e x) s (execRestartReleaseStep s) := by
  unfold execRestartReleaseStep
  split
  next r hr =>
    split
    next h =>
      simp only [Bool.and_eq_true, List.isEmpty_iff] at h
      exact .next (.inr ⟨State.releaseStep_not_exposed hs hx hexp,
        .inr (.inr (.inr (.inr ⟨rfl, h.2, by rw [hr]; exact h.1⟩)))⟩)
    next => exact .next (.inl ((Calm.refl s).stays hs e))
  next => exact .next (.inl ((Calm.refl s).stays hs e))

theorem execSenseGroupRead_exposed (contacts : List ThrowSet) : Leads (fun s t => State.Stays e s t ∨ t.coveredAt e ∧
    LeavesPath (.senseGroupRead contacts) s t e x) s (execSenseGroupRead contacts s) := by
  unfold execSenseGroupRead
  split
  · rcases State.readGroup_exposed hs hx hexp contacts with hstays | ⟨hcovered, hcause⟩
    · exact .next (.inl hstays)
    · exact .next (.inr ⟨hcovered, .inr (.inl ⟨contacts, rfl, hcause⟩)⟩)
  · exact .next (.inl ((Calm.refl s).stays hs e))

omit hexp in
/-- An image is read in STARTING, where no element is in use. -/
theorem execImageReadDone_exposed (image : List Byte) : Leads (State.Stays e) s (execImageReadDone image s) := by
  unfold execImageReadDone
  split
  next h =>
    rw [(hs e).start h.1] at hx
    cases hx
  next => exact .next ((Calm.refl s).stays hs e)

/-- An exposed element stays so, unmoved, or leaves SET and LIVE by one of the causes given. -/
theorem exec_exposed (c : Instr) :
    Leads (fun s t => State.Stays e s t ∨ t.coveredAt e ∧ LeavesPath c s t e x) s (exec c s) := by
  by_cases hreset : c = .resetLow
  · subst hreset
    exact .next (.inr ⟨fun y hy => (nomatch (State.reset_elem e).symm.trans hy), .inl rfl⟩)
  by_cases himage : ∃ image, c = .imageReadDone image
  · obtain ⟨image, rfl⟩ := himage
    obtain ⟨t, ht, hstays⟩ := execImageReadDone_exposed hs hx image
    exact ⟨t, ht, .inl hstays⟩
  by_cases hread : ∃ contacts, c = .senseGroupRead contacts
  · obtain ⟨contacts, rfl⟩ := hread
    exact execSenseGroupRead_exposed hs hx hexp contacts
  by_cases hcold : c = .frameSeenCold
  · subst hcold
    exact execFrameSeenCold_exposed hs hx hexp
  by_cases hrelease : c = .frameSeenRelease
  · subst hrelease
    exact execFrameSeenRelease_exposed hs hx hexp
  by_cases hend : c = .restartReleaseStep
  · subst hend
    exact execRestartReleaseStep_exposed hs hx hexp
  obtain ⟨t, ht, h⟩ := exec_calm s hreset (fun image h => himage ⟨image, h⟩) (fun contacts h => hread ⟨contacts, h⟩)
    hcold hrelease hend
  exact ⟨t, ht, .inl (h.stays hs e)⟩

end

/-- Settles O57: an exposed element stays as it is, or leaves SET and LIVE by one of the causes; and the law of the
arbiter lets no channel pulse for it. -/
theorem exposedElementIsNotMoved : Obligations.ExposedElementIsNotMoved := by
  intro c s t hexec harb hstates e x hx hexp
  have hs := harb.lawful hstates
  have ht := ((exec_keepsElemLaws c s).of_next hexec).lawful hs
  rcases (exec_exposed hs hx hexp c).of_next hexec with hstays | ⟨hcovered, hcause⟩
  · obtain ⟨z, hz, hzexp, hcommanded, hhold, hcontrol⟩ := hstays x hx hexp
    refine ⟨fun y hy hyexp => ?_, .inl ⟨z, hz, hzexp⟩⟩
    cases hz.symm.trans hy
    have hrest := Element.atRest_exposed (Element.exposed_iff.1 hzexp)
    exact ⟨hcommanded, hhold, hcontrol, ((ht e).place.bareAt hz hrest.1 hrest.2).pulses⟩
  · refine ⟨fun y hy hyexp => ?_, .inr hcause⟩
    rw [hcovered y hy] at hyexp
    cases hyexp

end Sys2Proof.Machine
end

section
/-!
PROOFS. What a queued move does at once, the grants of one instant, and the end of a move (O17, O18, O19, O21, O22).
-/

namespace Sys2Proof.Machine

/-! ### Queuing a move where nothing can be granted (R38, R41, R47) -/

theorem needsChannel_iff {c : ElemClass} {t : Throw} :
    needsChannel c t = true ↔ c = .latching ∨ c = .failsafe ∧ t ≠ 0 := by
  cases c <;> simp [needsChannel]

theorem State.filter_elem_ne_of_no_entry {s : State} {e : ElemNo} (he : s.hasEntry e = false) :
    s.moveQueue.filter (fun m => m.elem != e) = s.moveQueue :=
  List.filter_eq_self.2 fun m hm => by
    simpa using fun h => Bool.false_ne_true (he.symm.trans (State.hasEntry_iff.2 ⟨m, hm, h⟩))

section
variable {s : State} {e : ElemNo} {x : Element} (hx : s.elem e = some x) (t : Throw) (k : Lane)
include hx

/-- The start of a move that has just been queued. -/
theorem State.startMove_pushMove (b : Bool) (ch : Option ChannelNo) :
    (s.pushMove ⟨e, t, k, b⟩).startMove ⟨e, t, k, b⟩ ch = s.startMove ⟨e, t, k, b⟩ ch := by
  have hpush : (s.pushMove ⟨e, t, k, b⟩).elem e = some x := hx
  have hqueue : (s.moveQueue ++ [(⟨e, t, k, b⟩ : MoveEntry)]).filter (fun m => m.elem != e) =
      s.moveQueue.filter (fun m => m.elem != e) := by simp [List.filter_append]
  cases ch with
  | none => rw [State.startMove_none hpush, State.startMove_none hx]; dsimp only [State.pushMove]; rw [hqueue]
  | some c => rw [State.startMove_some hpush, State.startMove_some hx]; dsimp only [State.pushMove]; rw [hqueue]

theorem State.queueMove_of_needless (hneeds : needsChannel x.cls t = false)
    (hn : s.nodeState = .running) (hk : laneHeld s.laneHold k = false) :
    s.queueMove e t k = s.startMove ⟨e, t, k, false⟩ none := by
  rw [← State.startMove_pushMove hx t k]
  simp [State.queueMove, hx, hneeds, hn, hk, State.pushMove]

/-- A queued move takes no grant but its own where none could be made before. -/
theorem State.queueMove_of_needs (hs : ¬s.grantable) (he : s.hasEntry e = false) (hneeds : needsChannel x.cls t = true)
    (hn : s.nodeState = .running) (hk : laneHeld s.laneHold k = false) (hcoil : s.coilOk = true) {c : ChannelNo}
    (hc : s.idleChannel = some c) : s.queueMove e t k = s.startMove ⟨e, t, k, true⟩ (some c) := by
  have hidle := State.channel_of_idleChannel hc
  have hpush : (s.pushMove ⟨e, t, k, true⟩).elem e = some x := hx
  have hone : (s.pushMove ⟨e, t, k, true⟩).grantOne = s.startMove ⟨e, t, k, true⟩ (some c) := by
    obtain ⟨m, hm⟩ := State.grantChoice_isSome (s := s.pushMove ⟨e, t, k, true⟩) (m := ⟨e, t, k, true⟩)
      (by simp [State.pushMove]) rfl hk
    obtain ⟨hmem, hm_needs, hm_held⟩ := State.grantChoice_mem hm
    obtain hold | hnew := List.mem_append.1 hmem
    · exact absurd ⟨hn, hcoil, ⟨c, hidle⟩, m, hold, hm_needs, hm_held⟩ hs
    · obtain rfl := List.mem_singleton.1 hnew
      rw [← State.startMove_pushMove hx t k]
      exact State.grantOne_of hn hcoil hc hm
  have hrest : ¬(s.startMove ⟨e, t, k, true⟩ (some c)).grantable := by
    rw [State.startMove_some hx, State.filter_elem_ne_of_no_entry he]
    rintro ⟨hn', hk', -, m, hm, hm_needs, hm_held⟩
    exact hs ⟨hn', hk', ⟨c, hidle⟩, m, hm, hm_needs, hm_held⟩
  have hqueue : s.queueMove e t k = (s.pushMove ⟨e, t, k, true⟩).grants := by
    simp [State.queueMove, hx, hneeds, State.pushMove]
  rw [hqueue, State.grants, hone, State.grantOne_eq_of_not hrest, State.grantOne_eq_of_not hrest,
    State.grantOne_eq_of_not hrest]

/-- A queued move waits while the node is not RUNNING, while its lane is held, and while it lacks a channel or the
supply. -/
theorem State.queueMove_waits (hs : ¬s.grantable) (h : s.nodeState ≠ .running ∨ laneHeld s.laneHold k = true ∨
      needsChannel x.cls t = true ∧ (s.coilOk = false ∨ ∀ c, s.channel c ≠ .idle)) :
    s.queueMove e t k = s.pushMove ⟨e, t, k, needsChannel x.cls t⟩ := by
  have hgrant : needsChannel x.cls t = true → ¬(s.pushMove ⟨e, t, k, needsChannel x.cls t⟩).grantable := by
    rintro - ⟨hn, hcoil, ⟨c, hc⟩, m, hm, hm_needs, hm_held⟩
    obtain hold | hnew := List.mem_append.1 hm
    · exact hs ⟨hn, hcoil, ⟨c, hc⟩, m, hold, hm_needs, hm_held⟩
    · obtain rfl := List.mem_singleton.1 hnew
      rcases h with h | h | ⟨-, h | h⟩
      · exact h hn
      · cases h.symm.trans hm_held
      · cases h.symm.trans hcoil
      · exact h c hc
  simp only [State.queueMove, hx]
  split
  next hneeds =>
    have hstay := State.grantOne_eq_of_not (hgrant hneeds)
    change (s.pushMove ⟨e, t, k, needsChannel x.cls t⟩).grants = _
    rw [State.grants, hstay, hstay, hstay, hstay]
  next hneeds =>
    refine if_neg ?_
    rintro ⟨hn, hk⟩
    rcases h with h | h | h
    · exact h hn
    · cases h.symm.trans hk
    · exact hneeds h.1

end

/-- Settles O17: the start at the element is `Element.startMove_eq`; what a queued move does at once follows from that
no other move could be granted. -/
theorem queuedMoveWaitsOrStarts : Obligations.QueuedMoveWaitsOrStarts := by
  refine ⟨fun cfg k x => Element.startMove_eq cfg k x, fun s e x k lane hs hx he => ?_⟩
  have hneeds : (x.cls = .latching ∨ x.cls = .failsafe ∧ k ≠ 0) ↔ needsChannel x.cls k = true := needsChannel_iff.symm
  dsimp only
  refine ⟨fun h => ?_, fun hn hk => ⟨fun hno => ?_, fun hyes hcoil hc => ?_⟩⟩
  · rw [State.queueMove_waits hx k lane hs (by rwa [hneeds] at h), State.pushMove]
    congr 4
    rw [Bool.eq_iff_iff, decide_eq_true_iff, hneeds]
  · rw [State.queueMove_of_needless hx k lane (Bool.eq_false_iff.2 fun h => hno (hneeds.2 h)) hn hk,
      State.startMove_none hx, State.filter_elem_ne_of_no_entry he]
  · obtain ⟨c, hc⟩ := State.idleChannel_isSome hc
    refine ⟨c, State.channel_of_idleChannel hc, ?_⟩
    rw [State.queueMove_of_needs hx k lane hs he (hneeds.1 hyes) hn hk hcoil hc, State.startMove_some hx,
      State.filter_elem_ne_of_no_entry he]
    rfl

/-! ### The grants of one instant (R41) -/

/-- A grant leaves the control inputs, since an S element needs no channel. -/
theorem State.grantOne_controls {s : State} (hs : s.arbiterSafe) : s.grantOne.controls = s.controls := by
  by_cases h : s.grantable
  · obtain ⟨c, m, -, hm, heq, -⟩ := State.grantOne_startOne h
    obtain ⟨hmem, hneeds, -⟩ := State.grantChoice_mem hm
    obtain ⟨x, hx, -⟩ := hs.pend m.elem (State.hasEntry_iff.2 ⟨m, hmem, rfl⟩)
    have hcls : x.cls ≠ .solidState := fun hcls => by
      have hmarked := (hs.marked m hmem x hx).symm.trans hneeds
      rw [hcls] at hmarked
      cases hmarked
    rw [heq, State.startMove_some hx, if_neg hcls]
  · rw [State.grantOne_eq_of_not h]

theorem Starts.arbiterSafe {s t : State} (h : Starts s t) (hs : s.arbiterSafe) : t.arbiterSafe := by
  refine State.arbiterSafe_of_places (fun e => ((h.spares e).place (hs.place e)).mono h.frame.restart_none.1) ?_ ?_
  all_goals rw [h.frame.nodeState]; intro hn e
  · rw [← Option.isNone_iff_eq_none, ← Option.not_isSome, h.elem_isSome, (hs.start hn).2.2 e]; rfl
  · intro x hx
    cases h.spares e with
    | same elem => exact (hs.seed hn).2.2 e x (elem ▸ hx)
    | started _ _ _ _ _ running => cases running.symm.trans hn

theorem State.arbiterSafe.known {s : State} (h : s.arbiterSafe) : s.known := fun m hm => by
  obtain ⟨x, hx, -⟩ := h.pend m.elem (State.hasEntry_iff.2 ⟨m, hm, rfl⟩)
  rw [hx]; rfl

theorem State.grants_eq_iterate (s : State) : s.grants = State.grantOne^[4] s := rfl

theorem State.iterate_grantOne_arbiterSafe {s : State} (hs : s.arbiterSafe) (n : Nat) :
    (State.grantOne^[n] s).arbiterSafe := by
  induction n with
  | zero => exact hs
  | succ n ih => rw [Function.iterate_succ_apply']; exact (State.grantOne_starts _).arbiterSafe ih

/-- Of grants made one after another, those after the last that could be made change nothing. -/
theorem State.iterate_grantOne_eq (m : Nat) : ∀ s : State, ∃ n ≤ m, State.grantOne^[m] s = State.grantOne^[n] s ∧
    ∀ k < n, (State.grantOne^[k] s).grantable := by
  induction m with
  | zero => exact fun s => ⟨0, le_rfl, rfl, nofun⟩
  | succ m ih =>
    intro s
    by_cases h : s.grantable
    · obtain ⟨n, hn, heq, hall⟩ := ih s.grantOne
      refine ⟨n + 1, Nat.succ_le_succ hn, by rw [Function.iterate_succ_apply, Function.iterate_succ_apply, heq], ?_⟩
      intro k hk
      cases k with
      | zero => exact h
      | succ k => rw [Function.iterate_succ_apply]; exact hall k (Nat.lt_of_succ_lt_succ hk)
    · exact ⟨0, Nat.zero_le _, Function.iterate_fixed (State.grantOne_eq_of_not h) _, nofun⟩

theorem State.grants_controls {s : State} (hs : s.arbiterSafe) : s.grants.controls = s.controls := by
  have hone := fun n => State.grantOne_controls (State.iterate_grantOne_arbiterSafe hs n)
  exact (hone 3).trans ((hone 2).trans ((hone 1).trans (hone 0)))

theorem State.grants_eq_of_not {s : State} (h : ¬s.grantable) : s.grants = s :=
  Function.iterate_fixed (State.grantOne_eq_of_not h) 4

/-- A grant takes its move out of the arrival order. -/
theorem State.grants_moveQueue_length {s : State} (hs : s.arbiterSafe) (h : s.grantable) :
    s.grants.moveQueue.length < s.moveQueue.length := by
  obtain ⟨c, m, -, hm, heq, -⟩ := State.grantOne_startOne h
  have hmem := (State.grantChoice_mem hm).1
  obtain ⟨x, hx, -⟩ := hs.pend m.elem (State.hasEntry_iff.2 ⟨m, hmem, rfl⟩)
  have hrest : Starts s.grantOne s.grants :=
    ((State.grantOne_starts _).trans (State.grantOne_starts _)).trans (State.grantOne_starts _)
  refine lt_of_le_of_lt hrest.moveQueue_sublist.length_le ?_
  rw [heq, State.startMove_moveQueue hx]
  refine lt_of_le_of_ne (List.length_filter_le _ _) fun hlen => ?_
  simpa using List.length_filter_eq_length_iff.1 hlen m hmem

/-- The grants change only the arbiter's fields, and of them not the control inputs. -/
theorem State.grants_frame {s : State} (hs : s.arbiterSafe) : s.grants = { s with
    elems := s.grants.elems, moveQueue := s.grants.moveQueue, services := s.grants.services,
    channels := s.grants.channels } := by
  have hcontrols := State.grants_controls hs
  obtain ⟨_, _, _, _, _, heq⟩ := s.grants_touches
  rw [heq] at hcontrols ⊢
  subst hcontrols
  rfl

/-- An element whose pending move is among the grants has it in service; any other is as it was. -/
theorem Starts.elem_of_hasEntry {s t : State} (h : Starts s t) (e : ElemNo) :
    if t.hasEntry e = s.hasEntry e then t.elem e = s.elem e else t.hasService e = true ∧ s.hasEntry e = true := by
  cases h.spares e with
  | same elem _ entries => rw [if_pos (State.hasEntry_congr entries)]; exact elem
  | started m x v mem _ _ _ _ _ entries services =>
    have hbefore : s.hasEntry e = true := State.hasEntry_iff.2 ⟨m, State.mem_entriesOf.1 mem⟩
    rw [if_neg (by rw [State.entriesOf_eq_nil.1 entries, hbefore]; nofun)]
    refine ⟨State.hasService_iff.2 ⟨v, State.mem_servicesOf.1 ?_⟩, hbefore⟩
    rw [services]
    simp

/-- Settles O19: COILOK_RISE and the end of a recovery are the grants of one instant, on a state that keeps the law of
the arbiter. -/
theorem riseAndRecoveryEndGrant : Obligations.RiseAndRecoveryEndGrant := by
  intro s u c hs hc
  have hu : u.arbiterSafe ∧ exec c s = .next u.grants := by
    rcases hc with ⟨rfl, rfl⟩ | ⟨ch, left, rfl, hch, rfl⟩
    · exact ⟨⟨hs.pend, hs.serve, hs.pulse, hs.one, hs.moving, hs.marked, hs.waiting, hs.returning, hs.start, hs.seed⟩,
        rfl⟩
    · have helapsed : (s.elapse left).arbiterSafe := by
        refine State.arbiterSafe_of_places (fun e => State.elapse_place left (hs.place e)) (fun hn e => ?_) fun hn e x hx => ?_
        · rw [State.elem_elapse, (hs.start hn).2.2 e]; rfl
        · rw [State.elem_elapse] at hx
          obtain ⟨y, hy, rfl⟩ := Option.map_eq_some_iff.1 hx
          exact (hs.seed hn).2.2 e y hy
      refine ⟨⟨helapsed.pend, helapsed.serve, fun c e hp => helapsed.pulse c e ?_, helapsed.one, helapsed.moving,
        helapsed.marked, helapsed.waiting, helapsed.returning, helapsed.start, helapsed.seed⟩, ?_⟩
      · have hset := (s.elapse left).channel_setChannel ch c .idle
        change (((s.elapse left).setChannel ch .idle).channel c).pulses e = true at hp
        rw [hset] at hp
        split at hp
        · cases hp
        · exact hp
      · change execChannelRecoveryEnd ch s = _
        rw [execChannelRecoveryEnd, hch]
        rfl
  obtain ⟨husafe, hexec⟩ := hu
  have hstarts := u.grants_starts
  obtain ⟨n, hn, heq, hall⟩ := State.iterate_grantOne_eq 4 u
  refine ⟨u.grants, hexec, State.grants_frame husafe, ⟨⟨n, Nat.lt_succ_of_le hn⟩, heq, fun k hk =>
    ⟨hall k hk, State.iterate_grantOne_arbiterSafe husafe _⟩⟩, State.grants_not_grantable husafe.known,
    State.grants_eq_of_not, State.grants_moveQueue_length husafe, fun d hd => hstarts.channel fun hidle => ?_,
    hstarts.elem_of_hasEntry⟩
  rw [hidle] at hd
  cases hd

/-! ### Release processing and the expiry of D (R15, R16, R32) -/

/-- The throw that release processing sends an element to (R16, steps 3 and 4). -/
theorem Element.releaseTarget_eq (x : Element) : x.releaseTarget =
    if x.cls = .failsafe then (if x.commanded ≠ some 0 ∨ x.hold ≠ none then some 0 else none)
    else if x.commanded ≠ x.park then x.park else none := by
  cases hcls : x.cls with
  | failsafe => simp [Element.releaseTarget, hcls, Option.isSome_iff_ne_none]
  | latching => cases hpark : x.park <;> simp [Element.releaseTarget, hcls, hpark]
  | solidState => cases hpark : x.park <;> simp [Element.releaseTarget, hcls, hpark]

/-- Settles O21: release processing is one function, read branch by branch. -/
theorem releaseProcessingSteps : Obligations.ReleaseProcessingSteps := by
  intro s e x hx
  have htarget : x.disown.releaseTarget = x.releaseTarget := rfl
  dsimp only
  rw [State.release, hx]
  dsimp only
  rw [State.releaseFromStep2, htarget, Element.releaseTarget_eq]
  rfl

theorem Channel.pulses_any {s : State} {e : ElemNo} :
    allChannels.any (fun c => (s.channel c).pulses e) = true ↔ ∃ c, (s.channel c).pulses e = true := by
  simp [List.any_eq_true, mem_allChannels]

/-- Settles O22: the expiry acts on the element as the equations of `moveEnded` say. -/
theorem moveDurationExpires : Obligations.MoveDurationExpires := by
  intro s u e v x hv hu hx
  have hexec : exec (.moveDExpires e) s = execMoveDExpires e s := rfl
  have hve : v.elem = e := by simpa using List.find?_some hv
  refine ⟨fun hpulse => ?_, fun hquiet => ⟨u.moveEnded e, ?_, fun hs hr => ?_, fun hs hr ho => ?_, fun hs => ?_⟩⟩
  · rw [hexec, execMoveDExpires, hv]
    exact if_pos (Channel.pulses_any.2 hpulse)
  · rw [hexec, execMoveDExpires, hv]
    refine (if_neg ?_).trans ?_
    · rw [Channel.pulses_any]
      rintro ⟨c, hc⟩
      cases (hquiet c).symm.trans hc
    · rw [State.expireMove, hve, hu]
  · rw [State.moveEnded_of_moving hx hs, hr]
    rfl
  · dsimp only
    rw [State.moveEnded_of_moving hx hs, hr, if_pos rfl, State.releaseFromStep2, Element.releaseTarget_eq]
    simp only [Element.toLatched, Element.toReturning, Element.toFree, ho]
    rfl
  · rw [State.moveEnded_of_returning hx hs]
    rfl

/-! ### The pulses of a move (R28 to R31, R44) -/

theorem State.coilOf_front (s : State) {e : ElemNo} {x : Element} (hx : s.elem e = some x) (k : Throw) (lane : Lane)
    (n left : Nat) : s.coilOf (.pulsing e k lane n .front left) = .front e (halfOf x.throws k) := by
  have : s.elems[e] = some x := hx
  simp only [State.coilOf, this]

/-- The next phase of a move on a channel: that phase, and its coil. -/
theorem State.channel_of_set (u : State) (ch : ChannelNo) (c : Channel) :
    ({ u with channels := u.channels.set ch c } : State).channel ch = c := by simp [State.channel]

theorem Element.pulsesEnded_latching {cfg : ImageConfig} {x : Element} (hcls : x.cls = .latching) (k : Throw) (n : Nat) :
    x.pulsesEnded cfg k n = { x with
      half := if x.cascaded = true then halfOf x.throws k else x.half
      wear := min (x.wear + n) 16777215
      wearWarning := warningOf cfg .latching (min (x.wear + n) 16777215) } := by
  simp only [Element.pulsesEnded, hcls, Element.addWear]
  rfl

theorem Element.pulsesEnded_failsafe {cfg : ImageConfig} {x : Element} (hcls : x.cls = .failsafe) (k : Throw) (n : Nat) :
    x.pulsesEnded cfg k n = { x with
      hold := some k
      wear := min (x.wear + 1) 16777215
      wearWarning := warningOf cfg .failsafe (min (x.wear + 1) 16777215) } := by
  simp only [Element.pulsesEnded, hcls, Element.addWear]
  rfl

theorem State.endPulsing_eq {s : State} {e : ElemNo} {x : Element} (hx : s.elem e = some x) (ch : ChannelNo) (k : Throw)
    (lane : Lane) (n : Nat) : s.endPulsing ch e k lane n = { s with
      elems := s.elems.set e (some (x.pulsesEnded s.config k n))
      channels := s.channels.set ch (.recovering 10)
      orderHead := if s.config.rotating = true then lane + 1 else s.orderHead } := by
  unfold State.endPulsing State.modElem
  rw [hx]
  dsimp only
  split
  next h => rw [if_pos (show s.config.rotating = true from h)]; rfl
  next h => rw [if_neg (show ¬s.config.rotating = true from h)]; rfl

/-- Settles O18: each event of a channel by its phase. -/
theorem channelPulsesInTurn : Obligations.ChannelPulsesInTurn := by
  intro s ch e x k lane n left hx
  refine ⟨fun hch => ?_, fun hch => ?_, fun hch => ?_⟩
  · refine ⟨_, ?_, rfl, ?_, ?_⟩
    · change execCascadeFrontPulseEnd ch s = _
      rw [execCascadeFrontPulseEnd, hch]
      rfl
    · rw [hch, State.coilOf_front s hx]
      rfl
    · rw [State.channel_of_set]
      rfl
  · refine ⟨_, ?_, rfl, ?_⟩
    · change execCascadeGapEnd ch s = _
      rw [execCascadeGapEnd, hch]
      rfl
    · rw [State.channel_of_set]
      rfl
  · have helem : (s.elapse left).elem e = some (x.elapse left) := by rw [State.elem_elapse, hx]; rfl
    have hset := fun f =>
      State.elem_setElem (s.elapse left) e f ((x.elapse left).pulsesEnded (s.elapse left).config k n)
    refine ⟨(s.elapse left).endPulsing ch e k lane n, ?_, ?_, ?_⟩
    · change execPulsingEnd ch s = _
      rw [execPulsingEnd, hch]
    · rw [State.endPulsing_eq helem]
      rfl
    · rw [State.endPulsing_eq helem]
      refine ⟨fun f hf => (hset f).trans (if_neg hf), fun hcls => ?_, fun hcls => ?_, ?_⟩
      · refine (hset e).trans ((if_pos rfl).trans ?_)
        rw [Element.pulsesEnded_latching (x := x.elapse left) hcls, if_pos hcls]
        rfl
      · refine (hset e).trans ((if_pos rfl).trans ?_)
        rw [Element.pulsesEnded_failsafe (x := x.elapse left) hcls, hcls]
        rfl
      · exact congrArg _ (State.channel_setChannel_self (s.elapse left) ch _)

end Sys2Proof.Machine
end

section
/-!
PROOFS. What the frames of a path do to the elements, the frames without effect, the timers of claims and slots, and
the middle of a warm restart (O23, O24, O25, O39, O42, O50).
-/

namespace Sys2Proof.Machine

/-! ### The command of the frame at the head (R81) -/

section
variable {s : State} {a : Address} {h : Handle}

theorem exec_frameSeenHot_of_headFrame (hhead : s.headFrame = some ⟨a, .hot h⟩) :
    exec .frameSeenHot s = .next (if s.fromAnchor a h then
      s.popFrame.forElems allElems (fun e s => s.modElem e (Element.seeHot h)) else s.popFrame) := by
  change execFrameSeenHot s = _
  rw [execFrameSeenHot, hhead]

theorem exec_frameSeenCold_of_headFrame {p : ColdPurpose} (hhead : s.headFrame = some ⟨a, .cold h p⟩) :
    exec .frameSeenCold s = .next (if s.fromAnchor a h then s.popFrame.seeCold h p else s.popFrame) := by
  change execFrameSeenCold s = _
  rw [execFrameSeenCold, hhead]

theorem exec_frameSeenRelease_of_headFrame {r : ReasonCode} (hhead : s.headFrame = some ⟨a, .release h r⟩) :
    exec .frameSeenRelease s = .next (if s.fromAnchor a h then (s.popFrame.releaseHandle h).ownRelease a h
      else if s.nodeState = .restarting ∧ a = s.address ∧ a = h.anchor then
        s.popFrame.accountOwn RestartSeq.see (.release h r)
      else s.popFrame) := by
  change execFrameSeenRelease s = _
  rw [execFrameSeenRelease, hhead]

theorem exec_frameSeenAccept_of_headFrame (hhead : s.headFrame = some ⟨a, .accept h⟩) :
    exec .frameSeenAccept s = .next (if s.fromAnchor a h then s.popFrame.seeAccept h else s.popFrame) := by
  change execFrameSeenAccept s = _
  rw [execFrameSeenAccept, hhead]

theorem exec_frameSeenRefuse_of_headFrame {r : ReasonCode} (hhead : s.headFrame = some ⟨a, .refuse h r⟩) :
    exec .frameSeenRefuse s = .next (if s.fromAnchor a h then s.popFrame.dropClaims h else s.popFrame) := by
  change execFrameSeenRefuse s = _
  rw [execFrameSeenRefuse, hhead]

theorem exec_frameSeenHopstat_of_headFrame {m : HopMask} {st : Status} {r : BitVec 4} {w : Bool}
    (hhead : s.headFrame = some ⟨a, .hopstat h m st r w⟩) :
    exec .frameSeenHopstat s = .next (if s.anchors h then s.popFrame.seeHopstat h.gate m st else s.popFrame) := by
  change execFrameSeenHopstat s = _
  rw [execFrameSeenHopstat, hhead]

theorem exec_frameSeenBreak_of_headFrame {m : HopMask} {r : ReasonCode} (hhead : s.headFrame = some ⟨a, .brk h m r⟩) :
    exec .frameSeenBreak s = .next (if s.anchors h then
      (if a = s.address then s.popFrame.accountOwn RestartSeq.see (.brk h m r) else s.popFrame).endPath h.gate .broken
      else if a = s.address then s.popFrame.accountOwn RestartSeq.see (.brk h m r) else s.popFrame) := by
  change execFrameSeenBreak s = _
  rw [execFrameSeenBreak, hhead]

theorem exec_frameSeenDrop_of_headFrame (hhead : s.headFrame = some ⟨a, .drop h⟩) :
    exec .frameSeenDrop s = .next (if s.anchors h then s.popFrame.endPath h.gate .dropped else s.popFrame) := by
  change execFrameSeenDrop s = _
  rw [execFrameSeenDrop, hhead]

theorem exec_frameSeenScan_of_headFrame {S : ThrowSet} {d k : Byte} (hhead : s.headFrame = some ⟨a, .scan h S d k⟩) :
    exec .frameSeenScan s = .next (if s.nodeState = .running then
      (if h.anchor = s.address then s.popFrame.scanAnchor h.gate S d.toNat k.toNat else s.popFrame).scanLastHop h S
      else s.popFrame) := by
  change execFrameSeenScan s = _
  rw [execFrameSeenScan, hhead]
  dsimp only
  split <;> rfl

theorem exec_frameSeenAdvance_of_headFrame (hhead : s.headFrame = some ⟨a, .advance h⟩) :
    exec .frameSeenAdvance s = .next (if s.anchors h then s.popFrame.trigger h.gate else s.popFrame) := by
  change execFrameSeenAdvance s = _
  rw [execFrameSeenAdvance, hhead]

theorem exec_frameSeenReport_of_headFrame {u : Subject} {b : List Bool} (hhead : s.headFrame = some ⟨a, .report u b⟩) :
    exec .frameSeenReport s = .next s.popFrame := by
  change execFrameSeenReport s = _
  rw [execFrameSeenReport, hhead]

theorem exec_frameSeenNotice_of_headFrame {k : NoticeKind} {o : Option Handle} {d : ReasonCode}
    (hhead : s.headFrame = some ⟨a, .notice k o d⟩) : exec .frameSeenNotice s = .next s.popFrame := by
  change execFrameSeenNotice s = _
  rw [execFrameSeenNotice, hhead]

end

/-! ### HOT and COLD at the elements (R108) -/

theorem Element.ownedBy_iff {h : Handle} {x : Element} : x.ownedBy h = true ↔ x.owner.map (·.handle) = some h := by
  unfold Element.ownedBy
  cases x.owner <;> simp

theorem Element.seeHot_eq (h : Handle) : Element.seeHot h = fun x =>
    if x.owner.map (·.handle) = some h ∧ x.state = .set then { x with state := .live } else x := by
  funext x
  simp only [Element.seeHot, Bool.and_eq_true, beq_iff_eq, Element.ownedBy_iff]

theorem Element.seeCold_eq (h : Handle) : Element.seeCold h = fun x =>
    if x.owner.map (·.handle) = some h ∧ x.state = .live then x.toSet else x := by
  funext x
  simp only [Element.seeCold, Bool.and_eq_true, beq_iff_eq, Element.ownedBy_iff]

/-- Settles O42: HOT and COLD rewrite each element alone. -/
theorem hotAndColdExpose : Obligations.HotAndColdExpose := by
  intro s h hn
  have hfrom : s.fromAnchor h.anchor h = true := State.fromAnchor_iff.2 ⟨hn, rfl⟩
  refine ⟨fun hhead => ?_, fun hhead => ?_⟩
  · obtain ⟨v, hv⟩ := s.popFrame.forElems_modElem_touches allElems (Element.seeHot h)
    refine ⟨_, (exec_frameSeenHot_of_headFrame hhead).trans (by rw [if_pos hfrom, hv]), rfl, fun e => ?_⟩
    rw [← Element.seeHot_eq, ← hv, State.elem_forAll]
    rfl
  · obtain ⟨v, hv⟩ := s.popFrame.forElems_modElem_touches allElems (Element.seeCold h)
    have hcool : s.popFrame.seeCold h .all = { s.popFrame with elems := v } := hv
    refine ⟨_, (exec_frameSeenCold_of_headFrame hhead).trans (by rw [if_pos hfrom, hcool]), rfl, fun e => ?_⟩
    rw [← Element.seeCold_eq, ← hv, State.elem_forAll]
    rfl

/-! ### Frames without effect -/

theorem State.fromAnchor_false {s : State} {a : Address} {h : Handle} (hs : s.nodeState ≠ .running ∨ a ≠ h.anchor) :
    s.fromAnchor a h = false := by
  rw [Bool.eq_false_iff, ne_eq, State.fromAnchor_iff]
  rintro ⟨hn, ha⟩
  exact hs.elim (· hn) (· ha)

theorem State.anchors_iff {s : State} {h : Handle} : s.anchors h = true ↔ s.nodeState = .running ∧ h.anchor = s.address := by
  simp [State.anchors]

theorem State.anchors_false {s : State} {h : Handle} (hs : s.nodeState ≠ .running ∨ s.address ≠ h.anchor) :
    s.anchors h = false := by
  rw [Bool.eq_false_iff, ne_eq, State.anchors_iff]
  rintro ⟨hn, ha⟩
  exact hs.elim (· hn) (· ha.symm)

section
variable {s : State} {a : Address} {h : Handle}

theorem exec_frameSeenHot_idle (hhead : s.headFrame = some ⟨a, .hot h⟩)
    (hs : s.nodeState ≠ .running ∨ a ≠ h.anchor) : exec .frameSeenHot s = .next s.popFrame := by
  rw [exec_frameSeenHot_of_headFrame hhead, State.fromAnchor_false hs]; rfl

theorem exec_frameSeenCold_idle {p : ColdPurpose} (hhead : s.headFrame = some ⟨a, .cold h p⟩)
    (hs : s.nodeState ≠ .running ∨ a ≠ h.anchor) : exec .frameSeenCold s = .next s.popFrame := by
  rw [exec_frameSeenCold_of_headFrame hhead, State.fromAnchor_false hs]; rfl

theorem exec_frameSeenAccept_idle (hhead : s.headFrame = some ⟨a, .accept h⟩)
    (hs : s.nodeState ≠ .running ∨ a ≠ h.anchor) : exec .frameSeenAccept s = .next s.popFrame := by
  rw [exec_frameSeenAccept_of_headFrame hhead, State.fromAnchor_false hs]; rfl

theorem exec_frameSeenRefuse_idle {r : ReasonCode} (hhead : s.headFrame = some ⟨a, .refuse h r⟩)
    (hs : s.nodeState ≠ .running ∨ a ≠ h.anchor) : exec .frameSeenRefuse s = .next s.popFrame := by
  rw [exec_frameSeenRefuse_of_headFrame hhead, State.fromAnchor_false hs]; rfl

theorem exec_frameSeenHopstat_idle {m : HopMask} {st : Status} {r : BitVec 4} {w : Bool}
    (hhead : s.headFrame = some ⟨a, .hopstat h m st r w⟩) (hs : s.nodeState ≠ .running ∨ s.address ≠ h.anchor) :
    exec .frameSeenHopstat s = .next s.popFrame := by
  rw [exec_frameSeenHopstat_of_headFrame hhead, State.anchors_false hs]; rfl

theorem exec_frameSeenDrop_idle (hhead : s.headFrame = some ⟨a, .drop h⟩)
    (hs : s.nodeState ≠ .running ∨ s.address ≠ h.anchor) : exec .frameSeenDrop s = .next s.popFrame := by
  rw [exec_frameSeenDrop_of_headFrame hhead, State.anchors_false hs]; rfl

theorem exec_frameSeenAdvance_idle (hhead : s.headFrame = some ⟨a, .advance h⟩)
    (hs : s.nodeState ≠ .running ∨ s.address ≠ h.anchor) : exec .frameSeenAdvance s = .next s.popFrame := by
  rw [exec_frameSeenAdvance_of_headFrame hhead, State.anchors_false hs]; rfl

theorem exec_frameSeenBreak_idle {m : HopMask} {r : ReasonCode} (hhead : s.headFrame = some ⟨a, .brk h m r⟩)
    (ha : a ≠ s.address) (hs : s.nodeState ≠ .running ∨ s.address ≠ h.anchor) :
    exec .frameSeenBreak s = .next s.popFrame := by
  rw [exec_frameSeenBreak_of_headFrame hhead, State.anchors_false hs, if_neg ha]; rfl

theorem exec_frameSeenScan_idle {S : ThrowSet} {d k : Byte} (hhead : s.headFrame = some ⟨a, .scan h S d k⟩)
    (hn : s.nodeState ≠ .running) : exec .frameSeenScan s = .next s.popFrame := by
  rw [exec_frameSeenScan_of_headFrame hhead, if_neg hn]

theorem State.accountOwn_release (s : State) (account : Teardown → RestartSeq → RestartSeq) (h : Handle)
    (r : ReasonCode) : s.accountOwn account (.release h r) = { s with
      restart := s.restart.map (account (.release h)) } := rfl

theorem State.accountOwn_brk (s : State) (account : Teardown → RestartSeq → RestartSeq) (h : Handle) (m : HopMask)
    (r : ReasonCode) : s.accountOwn account (.brk h m r) = { s with
      breaksOut := if r = 19 then s.breaksOut.erase h else s.breaksOut
      restart := s.restart.map (account (.brk h)) } := rfl

/-- A warm restart is under way in RESTARTING; a RELEASE that another station sent, or for another anchor's handle, is
not accounted for. -/
theorem exec_frameSeenRelease_idle {r : ReasonCode} (hhead : s.headFrame = some ⟨a, .release h r⟩)
    (hs : s.nodeState ≠ .running ∨ a ≠ h.anchor)
    (hown : ¬(s.nodeState = .restarting ∧ a = s.address ∧ a = h.anchor) ∨ s.restart = none) :
    exec .frameSeenRelease s = .next s.popFrame := by
  rw [exec_frameSeenRelease_of_headFrame hhead, State.fromAnchor_false hs]
  refine congrArg _ ((if_neg nofun).trans ?_)
  rcases hown with hown | hnone
  · exact if_neg hown
  · have hpop : s.popFrame.restart = none := hnone
    split
    next =>
      rw [State.accountOwn_release, hpop, Option.map_none, ← hpop]
    next => rfl

end

/-- Settles O39: of each frame, that the condition of its effect does not hold. -/
theorem framesWithoutEffect : Obligations.FramesWithoutEffect := by
  intro s c a f h hhead hcause
  change exec c s = .next s.popFrame
  rcases hcause with ⟨ha, hcause⟩ | ⟨hn, hcause⟩ | ⟨ha, hcause⟩ | ⟨u, b, rfl, rfl⟩ | ⟨k, o, d, rfl, rfl⟩
  · rcases hcause with ⟨rfl, rfl⟩ | ⟨p, rfl, rfl⟩ | ⟨r, rfl, rfl⟩ | ⟨rfl, rfl⟩ | ⟨r, rfl, rfl⟩
    · exact exec_frameSeenHot_idle hhead (.inr ha)
    · exact exec_frameSeenCold_idle hhead (.inr ha)
    · exact exec_frameSeenRelease_idle hhead (.inr ha) (.inl fun h => ha h.2.2)
    · exact exec_frameSeenAccept_idle hhead (.inr ha)
    · exact exec_frameSeenRefuse_idle hhead (.inr ha)
  · rcases hcause with ⟨rfl, rfl⟩ | ⟨p, rfl, rfl⟩ | ⟨r, rfl, rfl, hown⟩ | ⟨rfl, rfl⟩ | ⟨r, rfl, rfl⟩ |
      ⟨m, st, r, w, rfl, rfl⟩ | ⟨rfl, rfl⟩ | ⟨m, r, rfl, rfl, ha⟩ | ⟨S, d, k, rfl, rfl⟩ | ⟨rfl, rfl⟩
    · exact exec_frameSeenHot_idle hhead (.inl hn)
    · exact exec_frameSeenCold_idle hhead (.inl hn)
    · exact exec_frameSeenRelease_idle hhead (.inl hn) (hown.imp (fun ha h => ha h.2.1) id)
    · exact exec_frameSeenAccept_idle hhead (.inl hn)
    · exact exec_frameSeenRefuse_idle hhead (.inl hn)
    · exact exec_frameSeenHopstat_idle hhead (.inl hn)
    · exact exec_frameSeenDrop_idle hhead (.inl hn)
    · exact exec_frameSeenBreak_idle hhead ha (.inl hn)
    · exact exec_frameSeenScan_idle hhead hn
    · exact exec_frameSeenAdvance_idle hhead (.inl hn)
  · rcases hcause with ⟨m, st, r, w, rfl, rfl⟩ | ⟨rfl, rfl⟩ | ⟨rfl, rfl⟩ | ⟨m, r, rfl, rfl, hsender⟩
    · exact exec_frameSeenHopstat_idle hhead (.inr ha)
    · exact exec_frameSeenDrop_idle hhead (.inr ha)
    · exact exec_frameSeenAdvance_idle hhead (.inr ha)
    · exact exec_frameSeenBreak_idle hhead hsender (.inr ha)
  · exact exec_frameSeenReport_of_headFrame hhead
  · exact exec_frameSeenNotice_of_headFrame hhead

/-! ### The middle of a warm restart (R159 to R161) -/

theorem RestartSeq.see_eq (t : Teardown) (r : RestartSeq) : r.see t =
    if t ∈ r.sent then { r with sent := r.sent.erase t } else { r with outstanding := r.outstanding.erase t } := rfl

/-- Settles O50: each step by its condition, from the equations of the accounting. -/
theorem restartProceeds : Obligations.RestartProceeds := by
  intro s r hr
  have hqueued : exec .teardownFrameQueued s = execTeardownFrameQueued s := rfl
  have hstep : exec .restartWithdrawalStep s = execRestartWithdrawalStep s := rfl
  refine ⟨fun f fs hwait hroom => ?_, fun hfull => ?_, fun hwait hout hdone => ?_, fun hcond => ?_,
    fun h m w hn hhead => ?_, fun h w hn ha hhead => ?_⟩
  · rw [hqueued, execTeardownFrameQueued, hr]
    dsimp only
    rw [hwait]
    exact if_pos hroom
  · rw [hqueued, execTeardownFrameQueued, hr]
    dsimp only
    rcases hfull with hwait | hfull
    · rw [hwait]
    · split
      · exact if_neg (by omega)
      · rfl
  · rw [hstep, execRestartWithdrawalStep, hr]
    exact if_pos (by simp [hwait, hout, hdone])
  · rw [hstep, execRestartWithdrawalStep, hr]
    refine if_neg ?_
    simp only [Bool.and_eq_true, List.isEmpty_iff, not_and]
    exact fun ⟨hwait, hout⟩ => absurd hwait (hcond.resolve_right (not_not_intro hout))
  · rw [exec_frameSeenBreak_of_headFrame hhead, State.anchors_false (.inl (by rw [hn]; nofun)), if_pos rfl,
      State.accountOwn_brk, ← RestartSeq.see_eq]
    have hpop : s.popFrame.restart = some r := hr
    rw [hpop]
    rfl
  · rw [exec_frameSeenRelease_of_headFrame hhead, State.fromAnchor_false (.inl (by rw [hn]; nofun)),
      if_pos (⟨hn, rfl, ha.symm⟩ : s.nodeState = .restarting ∧ s.address = s.address ∧ s.address = h.anchor),
      State.accountOwn_release, ← RestartSeq.see_eq]
    have hpop : s.popFrame.restart = some r := hr
    rw [hpop]
    rfl

end Sys2Proof.Machine
end

section
/-!
PROOFS. The timers of claims and slots (O23, O24, O25).
-/

namespace Sys2Proof.Machine

theorem State.roomFor.of_eq {s t : State} {n : Nat} (h : s.roomFor n) (hqueue : t.txQueue = s.txQueue)
    (hrestart : t.restart = s.restart) : t.roomFor n :=
  ⟨hrestart ▸ h.noneWaits, hqueue ▸ h.room⟩

theorem State.roomFor.elapse {s : State} {n : Nat} (h : s.roomFor n) (r : Nat) : (s.elapse r).roomFor n :=
  h.of_eq rfl rfl

theorem State.roomFor.setSlot {s : State} {n : Nat} (h : s.roomFor n) (g : Gate) (sl : Slot) :
    (s.setSlot g sl).roomFor n := h.of_eq rfl rfl

/-! ### Tentative claims (R103, R104) -/

theorem Element.claimedFor_elapse (x : Element) (r : Nat) (h : Handle) : (x.elapse r).claimedFor h = x.claimedFor h := by
  unfold Element.claimedFor Element.elapse
  cases x.owner <;> rfl

theorem State.owners_elapse (s : State) (r : Nat) : (s.elapse r).owners =
    s.owners.map (fun o => { o with claimTimer := o.claimTimer.map (· - r) }) := by
  simp only [State.owners, State.elem_elapse, List.map_filterMap]
  refine List.filterMap_congr fun e _ => ?_
  cases s.elem e <;> rfl

theorem State.maskOf_elapse (s : State) (r : Nat) (h : Handle) : (s.elapse r).maskOf h = s.maskOf h := by
  simp only [State.maskOf, State.owners_elapse, List.find?_map]
  have hp : ((fun o => o.handle == h) ∘ fun o : Owner => { o with claimTimer := o.claimTimer.map (· - r) }) =
      fun o => o.handle == h := rfl
  rw [hp]
  cases s.owners.find? (fun o => o.handle == h) <;> rfl

/-- Claims for one handle share their timer. -/
theorem State.claimLeft_eq {s : State} {h : Handle} {left : Nat}
    (hsome : ∃ e x, s.elem e = some x ∧ x.claimedFor h = true)
    (hall : ∀ (e : ElemNo) (x : Element), s.elem e = some x → x.claimedFor h = true →
      x.owner.bind (·.claimTimer) = some left) : s.claimLeft h = some left := by
  obtain ⟨e, x, hx, hclaimed⟩ := hsome
  have hat : ∀ e : ElemNo, ∀ l, ((s.elem e).bind fun x =>
      if x.claimedFor h then x.owner.bind (·.claimTimer) else none) = some l → l = left := by
    intro e l hl
    obtain ⟨x, hx, hl⟩ := Option.bind_eq_some_iff.1 hl
    split at hl
    next hclaimed => exact Option.some.inj (hl.symm.trans (hall e x hx hclaimed))
    next => cases hl
  cases hl : s.claimLeft h with
  | some l =>
    obtain ⟨f, -, hf⟩ := List.exists_of_findSome?_eq_some hl
    rw [hat f l hf]
  | none =>
    have hnone := List.findSome?_eq_none_iff.1 hl e (mem_allElems e)
    rw [hx, Option.bind_some, if_pos hclaimed, hall e x hx hclaimed] at hnone
    cases hnone

theorem State.dropClaims_eq (s : State) (h : Handle) : ∃ v, s.dropClaims h = { s with elems := v } ∧
    ∀ f, ({ s with elems := v } : State).elem f = (s.elem f).map (fun y => if y.claimedFor h = true then y.toFree else y) := by
  obtain ⟨v, hv⟩ := s.forElems_modElem_touches allElems fun y => if y.claimedFor h then y.toFree else y
  refine ⟨v, hv, fun f => ?_⟩
  rw [← hv, State.elem_forAll]

/-- Settles O23: both drops are those of `dropClaims`, the expiry's after the time that was left. -/
theorem tentativeClaimsDropped : Obligations.TentativeClaimsDropped := by
  refine ⟨fun s h left hsome hall => ?_, fun s h r hhead hn => ?_⟩
  · obtain ⟨v, hv, helem⟩ := (s.elapse left).dropClaims_eq h
    have hexec : exec (.tentativeClaimTimerExpiry h) s = .next ((s.elapse left).expireClaims h) := by
      change execTentativeClaimTimerExpiry h s = _
      rw [execTentativeClaimTimerExpiry, State.claimLeft_eq hsome hall]
    have helem' : ∀ f : ElemNo, ({ s.elapse left with elems := v } : State).elem f = (s.elem f).map (fun y =>
        if y.claimedFor h = true then y.toFree else y.elapse left) := by
      intro f
      rw [helem, State.elem_elapse, Option.map_map]
      refine Option.map_congr fun y _ => ?_
      rw [Function.comp_apply, Element.claimedFor_elapse]
      rfl
    refine ⟨_, hexec, ?_⟩
    rw [State.expireClaims, hv, State.maskOf_elapse]
    dsimp only
    by_cases hn : s.nodeState = .running
    · rw [if_pos (show (s.elapse left).nodeState = .running from hn)]
      refine ⟨fun f => ?_, fun _ hroom => ?_, fun hn' => absurd hn hn'⟩
      · rw [← helem']
        exact State.elem_congr (State.enqueue_touches _ _).elems f
      · have hroom' : ({ s.elapse left with elems := v } : State).roomFor 1 := hroom.of_eq rfl rfl
        rw [State.hopstat, State.enqueue_of_room hroom']
        rfl
    · rw [if_neg (show ¬(s.elapse left).nodeState = .running from hn)]
      exact ⟨helem', fun hn' => absurd hn' hn, fun _ => rfl⟩
  · obtain ⟨v, hv, helem⟩ := s.popFrame.dropClaims_eq h
    refine ⟨_, (exec_frameSeenRefuse_of_headFrame hhead).trans ?_, rfl, helem⟩
    rw [if_pos (State.fromAnchor_iff.2 ⟨hn, rfl⟩), hv]

/-! ### Slot timers (R119, R123, R124, R137, R153) -/

theorem State.slotRelease_of_room {s : State} {n : Nat} (h : s.roomFor (n + 1)) (g : Gate) (r : Reason) :
    s.slotRelease g r = { s with
      slots := s.slots.set g { s.slot g with
        state := .releasing, timer := none, quenchTimer := none, purpose := none, stepThrow := none
        releaseReason := some r }
      txQueue := s.txQueue ++ [⟨.frame (.release ⟨s.address, g⟩ r.code), false, false⟩] } :=
  State.enqueue_of_room (h.setSlot g _) _

theorem setLastThrow_dropLast (t : Throw) : ∀ l : List Hop, (setLastThrow t l).dropLast = l.dropLast
  | [] => rfl
  | [_] => rfl
  | h :: h' :: hs => by
    have hne : setLastThrow t (h' :: hs) ≠ [] := fun hnil => by
      have := setLastThrow_length t (h' :: hs)
      rw [hnil] at this
      cases this
    rw [setLastThrow, List.dropLast_cons_of_ne_nil hne, setLastThrow_dropLast t (h' :: hs)]
    rfl

theorem Slot.hopBit_lastHop {sl : Slot} (h : sl.hops.length ≤ 8) :
    hopBit sl.lastHop = BitVec.twoPow 8 (sl.hops.length - 1) := by
  have hval : sl.lastHop.val = sl.hops.length - 1 := Nat.mod_eq_of_lt (by change sl.hops.length - 1 < 8; omega)
  rw [hopBit, hval]

theorem State.stepCold_of_room {s : State} {n : Nat} (h : s.roomFor (n + 1)) (g : Gate) (t : Throw) :
    s.stepCold g t = { s with
      slots := s.slots.set g ((s.slot g).enterStepping s.config.setupTimeout t)
      txQueue := s.txQueue ++ [⟨.frame (.cold ⟨s.address, g⟩ (.step (s.slot g).lastHop t)), false, false⟩] } :=
  State.enqueue_of_room (h.setSlot g _) _

/-- Settles O24: with room for its frame a slot timer has one outcome for each slot state. -/
theorem slotTimersExpire : Obligations.SlotTimersExpire := by
  intro s g left hn hroom
  have hroom' := hroom.elapse left
  dsimp only
  have hslot := s.slot_elapse left g
  rw [hslot]
  refine ⟨fun ht hs => ?_, fun ht hs => ?_, fun r ht hs hp hr => ?_, fun k ht hs hp hk hone height => ?_⟩
  · have hs : (s.slot g).state = .collecting := hs
    have hexec : execSetupStepTimerExpiry g s = .next ((s.elapse left).slotRelease g .setupTimeout) := by
      rw [execSetupStepTimerExpiry, hn, ht, hs]
    rw [State.slotRelease_of_room hroom', hslot] at hexec
    exact hexec
  · have hs : (s.slot g).state = .stepping := hs
    have hexec : execSetupStepTimerExpiry g s = .next ((s.elapse left).slotRelease g .stepTimeout) := by
      rw [execSetupStepTimerExpiry, hn, ht, hs]
    rw [State.slotRelease_of_room hroom', hslot] at hexec
    exact hexec
  · have hs : (s.slot g).state = .quenching := hs
    have hp : (s.slot g).purpose = some .release := hp
    have hr : (s.slot g).releaseReason = some r := hr
    have hexec : execQuenchTimerExpiryRelease g s = .next ((s.elapse left).slotRelease g r) := by
      rw [execQuenchTimerExpiryRelease, hn, ht, hs, hp, hr]
      rfl
    rw [State.slotRelease_of_room hroom', hslot] at hexec
    exact hexec
  · have hs : (s.slot g).state = .quenching := hs
    have hp : (s.slot g).purpose = some .step := hp
    have hk : (s.slot g).stepThrow = some k := hk
    have hexec : execQuenchTimerExpiryStep g s = .next ((s.elapse left).stepCold g k) := by
      rw [execQuenchTimerExpiryStep, hn, ht, hs, hp, hk]
    have heq := State.stepCold_of_room hroom' g k
    rw [hslot] at heq
    have hset : ((s.elapse left).stepCold g k).slot g =
        ((s.slot g).elapse left).enterStepping s.config.setupTimeout k := by
      rw [heq]
      exact State.slot_setSlot_self (s.elapse left) g _
    refine ⟨_, hexec, ?_, ?_⟩
    · have hbit : hopBit ((s.slot g).elapse left).lastHop = _ := Slot.hopBit_lastHop height
      rw [hset, heq, Slot.enterStepping, hbit, Nat.mul_comm]
      rfl
    · rw [hset]
      exact ⟨setLastThrow_length k _, setLastThrow_getLast? k _, setLastThrow_dropLast k _⟩

/-- The gate of a slot opens (R118, R153), and a pending trigger is taken. -/
theorem State.openGate_of_room {s : State} {n : Nat} (h : s.roomFor (n + 1)) (g : Gate) :
    s.openGate g =
      let u : State := { s with
        slots := s.slots.set g { s.slot g with state := .hot, timer := none, quenchTimer := none, purpose := none }
        gateOut := s.gateOut.set g true
        txQueue := s.txQueue ++ [⟨.frame (.hot ⟨s.address, g⟩), false, false⟩] }
      if (s.slot g).state = .stepping ∨ (s.slot g).state = .held then u.takePending g else u := by
  have hroom : ((s.setSlot g { s.slot g with
      state := .hot, timer := none, quenchTimer := none, purpose := none }).setGate g true).roomFor (n + 1) :=
    h.of_eq rfl rfl
  rw [State.openGate]
  dsimp only
  rw [State.enqueue_of_room hroom]
  rfl

/-- Settles O25: opening the gate of a HELD slot takes the pending trigger after the HOT is queued. -/
theorem resumeTimeReopensGate : Obligations.ResumeTimeReopensGate := by
  intro s g left hn hroom hs ht hp u
  have hexec : execResumeTimerExpiry g s = .next ((s.elapse left).openGate g) := by
    rw [execResumeTimerExpiry, hn, ht, hs, hp]
  have hopen : (s.elapse left).openGate g = u.takePending g := by
    rw [State.openGate_of_room (hroom.elapse left), s.slot_elapse]
    exact if_pos (.inr hs)
  have hslot : u.slot g = { s.slot g with state := .hot, timer := none, quenchTimer := none, purpose := none } :=
    State.slot_setSlot_self _ g _
  have hscan : (u.slot g).scan = (s.slot g).scan := by rw [hslot]
  refine ⟨u.takePending g, hopen ▸ hexec, fun sc hsc hpend => ?_, fun hpend => ?_⟩
  · rw [State.takePending, hscan, hsc]
    exact if_pos hpend
  · rw [State.takePending, hscan]
    cases hsc : (s.slot g).scan with
    | none => rfl
    | some sc =>
      rw [hsc] at hpend
      exact if_neg (by simpa using hpend)

end Sys2Proof.Machine
end

section
/-!
PROOFS. A ROUTE at the nodes that it concerns (O35, O36, O37).
-/

namespace Sys2Proof.Machine

section
variable {s : State} {a : Address} {h : Handle} {lane : Lane} {count : Fin 16} {ext : Bool} {hops : List Hop}

/-- What the anchor role leaves of a ROUTE's node, which holds no hops of it or acts on them next (R94, R95). -/
def State.anchorPart (s : State) (h : Handle) (r : Resolved) : State :=
  let u := { s with rxQueue := s.rxQueue.tail, extTable := r.table }
  if h.anchor = s.address then u.anchorRole h r else u

theorem State.anchorRole_touches (s : State) (h : Handle) (r : Resolved) :
    ∃ sl, TxTouched { s with slots := sl } (s.anchorRole h r) := by
  unfold State.anchorRole
  split
  · split
    · exact ⟨s.slots, s.enqueue_touches _⟩
    · exact ⟨_, State.enqueue_touches (s.setSlot _ _) _⟩
  · exact ⟨s.slots, s.enqueue_touches _⟩
  · exact ⟨s.slots, s.enqueue_touches _⟩
  · exact ⟨s.slots, .refl s⟩
  · exact ⟨s.slots, .refl s⟩

theorem State.anchorPart_address (s : State) (h : Handle) (r : Resolved) : (s.anchorPart h r).address = s.address := by
  unfold State.anchorPart
  dsimp only
  split
  · obtain ⟨sl, htouch⟩ := State.anchorRole_touches { s with rxQueue := s.rxQueue.tail, extTable := r.table } h r
    exact htouch.address
  · rfl

theorem State.anchorPart_nodeState (s : State) (h : Handle) (r : Resolved) :
    (s.anchorPart h r).nodeState = s.nodeState := by
  unfold State.anchorPart
  dsimp only
  split
  · rw [State.anchorRole_nodeState]
  · rfl

theorem State.anchorPart_elems (s : State) (h : Handle) (r : Resolved) : (s.anchorPart h r).elems = s.elems := by
  unfold State.anchorPart
  dsimp only
  split
  · obtain ⟨sl, htouch⟩ := State.anchorRole_touches { s with rxQueue := s.rxQueue.tail, extTable := r.table } h r
    exact htouch.elems
  · rfl

/-- The anchor role is acted on first, then the node's hops (R95, log entry 11). -/
theorem exec_frameSeenRoute_of_headFrame (hhead : s.headFrame = some ⟨a, .route h lane count ext hops⟩) :
    exec .frameSeenRoute s = .next (
      let r := resolveRoute s.extTable a h count ext hops
      let mine := r.hops.filter (fun p => p.2.node == s.address)
      if mine = [] then s.anchorPart h r else (s.anchorPart h r).hopRole h lane r mine) := by
  have hexec : exec .frameSeenRoute s = .next (s.popFrame.seeRoute a h lane count ext hops) := by
    change execFrameSeenRoute s = _
    rw [execFrameSeenRoute, hhead]
  have hseen : s.popFrame.seeRoute a h lane count ext hops =
      let r := resolveRoute s.extTable a h count ext hops
      let mine := hopsOf (s.anchorPart h r).address r.hops
      if mine.isEmpty then s.anchorPart h r else (s.anchorPart h r).hopRole h lane r mine := rfl
  rw [hexec, hseen]
  dsimp only
  rw [State.anchorPart_address]
  simp only [hopsOf, List.isEmpty_iff]

end

/-- The anchor's answer where one more frame can be queued (R99 to R101). -/
theorem State.anchorRole_of_room {s : State} {n : Nat} (hroom : s.roomFor (n + 1)) (hn : s.nodeState = .running)
    (h : Handle) (r : Resolved) : s.anchorRole h r =
      let refused (reason : Reason) :=
        { s with txQueue := s.txQueue ++ [⟨.frame (.refuse h reason.code), false, false⟩] }
      if s.config.gateEnable.getLsbD h.gate = false then refused .gateDisabled
      else if (s.slot h.gate).state ≠ .idle then refused .gateBusy
      else if r.wellFormed = false then refused .malformed
      else { s with
        slots := s.slots.set h.gate (Slot.collect s.config.setupTimeout (r.hops.map (·.2)))
        txQueue := s.txQueue ++ [⟨.frame (.accept h), false, false⟩] } := by
  have hrefuse : ∀ reason, s.anchorReason h.gate r.wellFormed = some reason → s.anchorRole h r =
      { s with txQueue := s.txQueue ++ [⟨.frame (.refuse h reason.code), false, false⟩] } := fun reason hr => by
    have heq : s.anchorRole h r = s.enqueue (.refuse h reason.code) := by rw [State.anchorRole, hn, hr]
    exact heq.trans (State.enqueue_of_room hroom _)
  dsimp only
  by_cases henable : s.config.gateEnable.getLsbD h.gate = false
  · rw [if_pos henable, hrefuse .gateDisabled (if_pos henable)]
  · by_cases hidle : (s.slot h.gate).state ≠ .idle
    · rw [if_neg henable, if_pos hidle, hrefuse .gateBusy ((if_neg henable).trans (if_pos hidle))]
    · by_cases hwf : r.wellFormed = false
      · rw [if_neg henable, if_neg hidle, if_pos hwf,
          hrefuse .malformed ((if_neg henable).trans ((if_neg hidle).trans (if_pos hwf)))]
      · have hr : s.anchorReason h.gate r.wellFormed = none :=
          (if_neg henable).trans ((if_neg hidle).trans (if_neg hwf))
        have heq : s.anchorRole h r = (s.setSlot h.gate
            (Slot.collect s.config.setupTimeout (r.hops.map (·.2)))).enqueue (.accept h) := by
          rw [State.anchorRole, hn, hr]
        rw [if_neg henable, if_neg hidle, if_neg hwf]
        exact heq.trans (State.enqueue_of_room (hroom.setSlot _ _) _)

/-- Settles O35: the anchor role as an if-chain over its checks, on the state without the frame. -/
theorem routeAtAnchor : Obligations.RouteAtAnchor := by
  intro s a h lane count ext hops hhead hn hroom r hnone
  have hmine : r.hops.filter (fun p => p.2.node == s.address) = [] :=
    List.filter_eq_nil_iff.2 fun p hp => by simpa using hnone p hp
  rw [exec_frameSeenRoute_of_headFrame hhead]
  dsimp only
  rw [if_pos hmine, State.anchorPart]
  by_cases hanchor : h.anchor = s.address
  · have hroom' : ({ s with rxQueue := s.rxQueue.tail, extTable := r.table } : State).roomFor 1 := hroom.of_eq rfl rfl
    rw [if_pos hanchor, if_neg (not_not_intro hanchor), State.anchorRole_of_room hroom' hn]
    rfl
  · rw [if_neg hanchor, if_pos hanchor]

/-- Settles O37: the anchor answers first, and the hop role then works on what it left. -/
theorem routeAnsweredNotRunning : Obligations.RouteAnsweredNotRunning := by
  intro s a h lane count ext hops hhead hn r mine u v
  have hpart : s.anchorPart h r = v := by
    have hrole : u.anchorRole h r = u.enqueue (.refuse h 1) := by
      rcases hn with hn | hn <;> simp only [State.anchorRole, show u.nodeState = _ from hn] <;> rfl
    rw [State.anchorPart, hrole]
  have hv : TxTouched u v := by
    simp only [v]
    split
    · exact u.enqueue_touches _
    · exact .refl u
  have hhop : v.hopRole h lane r mine = v.enqueue (.hopstat h (hopMaskOf mine) .refused 1 false) := by
    have hn' := hv.nodeState
    rcases hn with hn | hn <;> simp only [State.hopRole, hn'.trans hn] <;> rfl
  have hexec := exec_frameSeenRoute_of_headFrame hhead
  dsimp only at hexec
  rw [show resolveRoute s.extTable a h count ext hops = r from rfl, hpart, show r.hops.filter _ = mine from rfl, hhop] at hexec
  have ht : TxTouched u (if mine = [] then v else v.enqueue (.hopstat h (hopMaskOf mine) .refused 1 false)) := by
    split
    · exact hv
    · exact hv.trans (v.enqueue_touches _)
  refine ⟨_, hexec, rfl, ht.slots, ht.elems, fun hroom hanchor hmine => ?_⟩
  rw [if_pos hmine]
  simp only [v]
  rw [if_pos hanchor, State.enqueue_of_room (hroom.of_eq (t := u) rfl rfl)]
  rfl

/-! ### The hop role (R96 to R98) -/

theorem hopMaskOf_getLsbD (l : HopList) (k : HopNo) : (hopMaskOf l).getLsbD k = true ↔ ∃ q ∈ l, q.1 = k := by
  have hbit : ∀ j : HopNo, (hopBit j).getLsbD k = decide (j = k) := fun j => by
    rw [hopBit, BitVec.getLsbD_twoPow, Bool.eq_iff_iff]
    simp [Fin.ext_iff]
  have hgen : ∀ m : HopMask, (l.foldl (fun m p => m ||| hopBit p.1) m).getLsbD k = true ↔
      m.getLsbD k = true ∨ ∃ q ∈ l, q.1 = k := by
    induction l with
    | nil => simp
    | cons p l ih =>
      intro m
      rw [List.foldl_cons, ih, BitVec.getLsbD_or, Bool.or_eq_true, hbit, decide_eq_true_iff, or_assoc]
      simp
  rw [hopMaskOf, hgen]
  simp

theorem repeatsElement_iff (l : HopList) : repeatsElement l = true ↔ ¬(l.map (fun q => q.2.element)).Nodup := by
  induction l with
  | nil => simp [repeatsElement]
  | cons p l ih =>
    rw [repeatsElement, Bool.or_eq_true, ih, List.map_cons, List.nodup_cons, not_and_or, not_not]
    simp only [List.any_eq_true, beq_iff_eq, List.mem_map]

/-- Changes of elements one after another, each of another element. -/
theorem State.foldl_modElem {f : HopNo × Hop → Element → Element} (l : HopList) : ∀ s : State,
    ∃ v, l.foldl (fun s p => s.modElem p.2.element (f p)) s = { s with elems := v } ∧
      (∀ e : ElemNo, (∀ q ∈ l, q.2.element ≠ e) → ({ s with elems := v } : State).elem e = s.elem e) ∧
      ((l.map (fun q => q.2.element)).Nodup → ∀ q ∈ l,
        ({ s with elems := v } : State).elem q.2.element = (s.elem q.2.element).map (f q)) := by
  induction l with
  | nil => exact fun s => ⟨s.elems, rfl, fun _ _ => rfl, fun _ _ => nofun⟩
  | cons p l ih =>
    intro s
    have hmod := fun e => s.elem_modElem p.2.element e (f p)
    obtain ⟨v, hv⟩ := s.modElem_touches p.2.element (f p)
    rw [hv] at hmod
    obtain ⟨w, hw, hothers, heach⟩ := ih { s with elems := v }
    refine ⟨w, ?_, fun e he => ?_, fun hne q hq => ?_⟩
    · rw [List.foldl_cons, hv, hw]
    · refine (hothers e fun q hq => he q (List.mem_cons_of_mem _ hq)).trans ((hmod e).trans (if_neg ?_))
      exact fun h => he p List.mem_cons_self h.symm
    · obtain ⟨hnew, hne⟩ := List.nodup_cons.1 hne
      have hother : ∀ r ∈ l, r.2.element ≠ p.2.element := fun r hr h => hnew (List.mem_map.2 ⟨r, hr, h⟩)
      obtain rfl | hq := List.mem_cons.1 hq
      · exact (hothers _ hother).trans ((hmod _).trans (if_pos rfl))
      · refine (heach hne q hq).trans ?_
        rw [hmod, if_neg (hother q hq)]

/-- The six checks of a hop node, in their order (R96). -/
def State.hopChecks (s : State) (h : Handle) (wellFormed : Bool) (mine : HopList) : Option Reason :=
  let named (p : Hop → Element → Bool) :=
    mine.any (fun q => match s.elem q.2.element with
      | some x => p q.2 x
      | none => false)
  if wellFormed = false ∨ ¬(mine.map (fun q => q.2.element)).Nodup ∨
      mine.any (fun q => decide (12 ≤ q.2.throw.val)) = true then some .malformed
  else if mine.any (fun q => (s.elem q.2.element).isNone) = true then some .noSuchElement
  else if named (fun hp x => decide (x.throws ≤ hp.throw.val)) = true then some .badThrow
  else if s.holds h = true then some .handleBusy
  else if named (fun _ x => x.state == .fault) = true then some .faulted
  else if named (fun _ x => x.state != .free) = true then some .busy
  else none

theorem State.hopReason_eq (s : State) (h : Handle) (wellFormed : Bool) (mine : HopList) :
    s.hopReason h wellFormed mine = s.hopChecks h wellFormed mine := by
  have hnamed : ∀ p : Hop → Element → Bool, s.anyHop mine (fun hp x => x.any (p hp)) =
      mine.any (fun q => match s.elem q.2.element with
        | some x => p q.2 x
        | none => false) := fun p => by
    refine congrArg mine.any (funext fun q => ?_)
    dsimp only
    cases s.elem q.2.element <;> rfl
  simp only [State.hopReason, State.hopChecks, hnamed, repeatsElement_iff]
  rfl

theorem State.hopReason_congr {s t : State} (h : t.elems = s.elems) (hd : Handle) (wellFormed : Bool) (mine : HopList) :
    t.hopReason hd wellFormed mine = s.hopReason hd wellFormed mine := by
  have helem : t.elem = s.elem := funext fun e => State.elem_congr h e
  have hany : ∀ p, t.anyHop mine p = s.anyHop mine p := fun p => by rw [State.anyHop, State.anyHop, helem]
  have hholds : t.holds hd = s.holds hd := by simp only [State.holds, State.anyElem, helem]
  simp only [State.hopReason, hany, hholds]

theorem State.anchorPart_roomFor {s : State} {n : Nat} (hroom : s.roomFor (n + 1)) (hn : s.nodeState = .running)
    (h : Handle) (r : Resolved) : (s.anchorPart h r).roomFor n := by
  have hroom' : ({ s with rxQueue := s.rxQueue.tail, extTable := r.table } : State).roomFor (n + 1) :=
    hroom.of_eq rfl rfl
  unfold State.anchorPart
  dsimp only
  split
  · rw [State.anchorRole_of_room hroom' hn]
    dsimp only
    split_ifs
    all_goals exact hroom'.after rfl rfl
  · exact ⟨hroom'.noneWaits, by have := hroom'.room; omega⟩

/-- Settles O36: the first failed check of `hopReason_eq` decides; without one the claims are made over distinct
elements. -/
theorem routeAtHopNode : Obligations.RouteAtHopNode := by
  intro s a h lane count ext hops hhead hn hroom r mine hmine _ v u named reason
  have hexec : exec .frameSeenRoute s = .next (u.hopRole h lane r mine) :=
    (exec_frameSeenRoute_of_headFrame hhead).trans (congrArg _ (if_neg hmine))
  have hun : u.nodeState = .running := (s.anchorPart_nodeState h r).trans hn
  have huelem : ∀ e, u.elem e = s.elem e := fun e => State.elem_congr (s.anchorPart_elems h r) e
  have hreason : u.hopReason h r.wellFormed mine = reason :=
    (State.hopReason_congr (s.anchorPart_elems h r) h r.wellFormed mine).trans (s.hopReason_eq h r.wellFormed mine)
  refine ⟨_, hopMaskOf mine, hexec, rfl, hopMaskOf_getLsbD mine, fun why hwhy => ?_, fun hnone => ?_⟩
  · have hrole : u.hopRole h lane r mine = u.hopstat h (hopMaskOf mine) .refused why false := by
      rw [State.hopRole, hun, hreason, hwhy]
    exact hrole.trans (State.enqueue_of_room (State.anchorPart_roomFor hroom hn h r) _)
  · have hrole : u.hopRole h lane r mine = u.claimHops h lane r.hops.length mine := by
      rw [State.hopRole, hun, hreason, hnone]
    obtain ⟨-, hrepeats, -⟩ := State.hopReason_eq_none (hreason.trans hnone)
    have hne : (mine.map (fun q => q.2.element)).Nodup := by
      rw [Bool.eq_false_iff, ne_eq, repeatsElement_iff, not_not] at hrepeats
      exact hrepeats
    obtain ⟨w, hw, hothers, heach⟩ := State.foldl_modElem
      (f := fun p => Element.claim (claimOwner h lane (hopMaskOf mine) r.hops.length p.1) p.2.throw) mine u
    have ht : u.hopRole h lane r mine = { u with elems := w } := hrole.trans hw
    rw [ht]
    refine ⟨rfl, fun q hq x hx => ?_, fun e he => (hothers e he).trans (huelem e)⟩
    rw [heach hne q hq, huelem, hx]
    rfl

end Sys2Proof.Machine
end

section
/-!
PROOFS. LANEHOLD, and a COLD step at the element that holds the hop (O43, O46).
-/

namespace Sys2Proof.Machine

/-! ### LANEHOLD (R45, R46) -/

theorem exec_frameSeenLanehold_of_headFrame {s : State} {a : Address} {target : Target} {mask : LaneMask}
    (hhead : s.headFrame = some ⟨a, .laneHold target mask⟩) :
    exec .frameSeenLanehold s = .next (if s.obeys target then s.popFrame.holdLanes mask else s.popFrame) := by
  change execFrameSeenLanehold s = _
  rw [execFrameSeenLanehold, hhead]

/-- A pending move that has started was of a lane that is not held; the moves of held lanes stay. -/
theorem Starts.mem_of_held {s t : State} (h : Starts s t) (hs : s.arbiterSafe) {m : MoveEntry} (hm : m ∈ s.moveQueue)
    (hheld : laneHeld s.laneHold m.lane = true) : m ∈ t.moveQueue := by
  have hentry : s.hasEntry m.elem = true := State.hasEntry_iff.2 ⟨m, hm, rfl⟩
  rw [h.moveQueue]
  refine List.mem_filter.2 ⟨hm, ?_⟩
  cases h.spares m.elem with
  | same elem control entries => rw [State.hasEntry_congr entries, hentry]
  | started m' x v mem before running unheld =>
    obtain ⟨m₀, -, hentries, -⟩ := (hs.place m.elem).of_entry hentry
    have hmem : m ∈ s.entriesOf m.elem := State.mem_entriesOf.2 ⟨hm, rfl⟩
    rw [hentries, List.mem_singleton] at hmem mem
    rw [mem, ← hmem, hheld] at unheld
    cases unheld

/-- An element whose pending move has started is on its way to that move's target. -/
theorem Starts.started_of_hasEntry {s t : State} (h : Starts s t) (e : ElemNo) :
    if t.hasEntry e = s.hasEntry e then t.elem e = s.elem e ∧ t.control e = s.control e
    else t.hasService e = true ∧ ∃ m ∈ s.moveQueue, m.elem = e ∧
      t.elem e = (s.elem e).map (Element.startMove s.config m.target) ∧
      t.control e = if (s.elem e).any (fun x => x.cls == .solidState) = true then m.target else s.control e := by
  cases h.spares e with
  | same elem control entries => rw [if_pos (State.hasEntry_congr entries)]; exact ⟨elem, control⟩
  | started m x v mem before _ _ elem control entries services =>
    obtain ⟨hm, hme⟩ := State.mem_entriesOf.1 mem
    rw [if_neg (by rw [State.entriesOf_eq_nil.1 entries, State.hasEntry_iff.2 ⟨m, hm, hme⟩]; nofun)]
    refine ⟨State.hasService_iff.2 ⟨v, State.mem_servicesOf.1 (by rw [services]; simp)⟩, m, hm, hme, ?_, ?_⟩
    · rw [elem, before]; rfl
    · rw [control, before]; simp

/-- The new mask, and the starts of what it frees (R45, R46). -/
theorem State.holdLanes_starts {s : State} (hs : s.arbiterSafe) (hn : s.nodeState = .running) (mask : LaneMask) :
    Starts { s with laneHold := mask } (s.holdLanes mask) ∧ ¬(s.holdLanes mask).grantable ∧
      ¬(s.holdLanes mask).startable := by
  have hknown : State.known { s with laneHold := mask } := hs.known
  have hstart := State.startUnheld_starts (s := { s with laneHold := mask }) hn (List.nodup_append.1 hs.one).1
  have hgrant := State.grants_starts ({ s with laneHold := mask } : State).startUnheld
  exact ⟨hstart.trans hgrant, State.grants_not_grantable (State.startUnheld_known hknown),
    hgrant.not_startable (State.startUnheld_not_startable hknown)⟩

/-- Starts change the fields of the arbiter only. -/
theorem Starts.eq {s t : State} (h : Starts s t) : t = { s with
    elems := t.elems, controls := t.controls, moveQueue := t.moveQueue, services := t.services
    channels := t.channels } := by
  obtain ⟨_, _, _, _, _, heq⟩ := h.touches
  rw [heq]

/-- Settles O46: replacing the mask only starts moves (`holdLanes_starts`), each element as `Starts` says. -/
theorem laneHoldReplacesMask : Obligations.LaneHoldReplacesMask := by
  intro s a target mask hhead u acts
  have hexec := exec_frameSeenLanehold_of_headFrame hhead
  refine ⟨_, hexec, fun hno => ?_, fun hacts hs => ?_⟩
  · rw [if_neg fun h => hno (State.obeys_iff.1 h)]
    rfl
  · have hu : u.arbiterSafe :=
      ⟨hs.pend, hs.serve, hs.pulse, hs.one, hs.moving, hs.marked, hs.waiting, hs.returning, hs.start, hs.seed⟩
    have hv : State.arbiterSafe { u with laneHold := mask } :=
      ⟨hs.pend, hs.serve, hs.pulse, hs.one, hs.moving, hs.marked, hs.waiting, hs.returning, hs.start, hs.seed⟩
    rw [if_pos (State.obeys_iff.2 hacts)]
    obtain ⟨hstarts, hgrant, hstart⟩ := State.holdLanes_starts hu hacts.1 mask
    refine ⟨hstarts.eq, hgrant, hstart, fun v hmem => ?_, fun d hd => hstarts.channel fun hidle => ?_, hstarts.moveQueue,
      fun m hm hheld => hstarts.mem_of_held hv hm hheld, hstarts.started_of_hasEntry⟩
    · obtain ⟨vs, hvs⟩ := hstarts.services
      exact hvs ▸ List.mem_append_left _ hmem
    · have hidle : s.channel d = .idle := hidle
      rw [hidle] at hd
      cases hd

/-! ### A COLD step (R69, R108) -/

theorem allElems_sorted : allElems.Pairwise (· < ·) := by decide

/-- The first element that satisfies a test. -/
theorem find?_allElems {p : ElemNo → Bool} {e : ElemNo} (he : p e = true) (hfirst : ∀ f < e, p f = false) :
    allElems.find? p = some e := by
  cases hfind : allElems.find? p with
  | none =>
    have := List.find?_eq_none.1 hfind e (mem_allElems e)
    exact absurd he this
  | some f =>
    obtain ⟨hp, as, bs, hsplit, has⟩ := List.find?_eq_some_iff_append.1 hfind
    rcases lt_trichotomy f e with hlt | rfl | hgt
    · rw [hfirst f hlt] at hp; cases hp
    · rfl
    · have hmem : e ∈ as ++ f :: bs := hsplit ▸ mem_allElems e
      obtain hold | hnew := List.mem_append.1 hmem
      · have := has e hold
        rw [he] at this
        cases this
      · obtain rfl | hlater := List.mem_cons.1 hnew
        · rfl
        · have hsorted := hsplit ▸ allElems_sorted
          have := (List.pairwise_cons.1 (List.pairwise_append.1 hsorted).2.1).1 e hlater
          exact absurd (this.trans hgt) (lt_irrefl _)

/-- The element holds hop `k` of the handle. -/
def State.holdsHop (s : State) (h : Handle) (k : HopNo) (e : ElemNo) : Bool :=
  (s.elem e).any fun x => x.owner.any fun o => o.handle == h && o.hop == k

theorem State.holdsHop_iff {s : State} {h : Handle} {k : HopNo} {e : ElemNo} : s.holdsHop h k e = true ↔
    ∃ x, s.elem e = some x ∧ x.owner.map (fun o => (o.handle, o.hop)) = some (h, k) := by
  simp [State.holdsHop, Option.any_eq_true]

theorem State.hopElem_eq_find? (s : State) (h : Handle) (k : HopNo) :
    s.hopElem h k = allElems.find? (s.holdsHop h k) := by
  refine congrArg (allElems.find? ·) (funext fun e => ?_)
  unfold State.holdsHop
  cases s.elem e with
  | none => rfl
  | some x => cases hx : x.owner <;> simp [hx]

theorem State.hopElem_eq_some {s : State} {h : Handle} {k : HopNo} {e : ElemNo} {x : Element} (hx : s.elem e = some x)
    (ho : x.owner.map (fun o => (o.handle, o.hop)) = some (h, k))
    (hfirst : ∀ (f : ElemNo) (y : Element), s.elem f = some y → f < e →
      ¬(y.owner.map (fun o => (o.handle, o.hop)) = some (h, k))) : s.hopElem h k = some e := by
  rw [State.hopElem_eq_find?]
  refine find?_allElems (State.holdsHop_iff.2 ⟨x, hx, ho⟩) fun f hf => ?_
  rw [Bool.eq_false_iff, ne_eq, State.holdsHop_iff]
  rintro ⟨y, hy, hyo⟩
  exact hfirst f y hy hf hyo

theorem State.hopElem_eq_none {s : State} {h : Handle} {k : HopNo} (hnone : ∀ (e : ElemNo) (x : Element),
    s.elem e = some x → ¬(x.owner.map (fun o => (o.handle, o.hop)) = some (h, k))) : s.hopElem h k = none := by
  rw [State.hopElem_eq_find?]
  refine List.find?_eq_none.2 fun e _ => ?_
  rw [State.holdsHop_iff]
  rintro ⟨x, hx, ho⟩
  exact hnone e x hx ho

/-- What a COLD step makes of the element that holds the hop, by its state (R69, R108). -/
theorem State.stepElem_of_room {u : State} {n : Nat} (hroom : u.roomFor (n + 1)) (h : Handle) (k : HopNo) (j : Throw)
    (e : ElemNo) (x : Element) : u.stepElem h k j e x =
      let answer (st : Status) (r : BitVec 4) (w : Bool) := { u with
        txQueue := u.txQueue ++ [⟨.frame (.hopstat h (BitVec.twoPow 8 k) st r w), false, false⟩] }
      match x.state with
      | .set | .live =>
        if x.throws ≤ j.val then answer .refused 4 false
        else if x.commanded = some j then answer .ready 0 x.wearWarning
        else State.queueMove
          { u with
            elems := u.elems.set e (some { x with
              state := .waiting, target := some j, stepTarget := true, retry := false }) }
          e j ((x.owner.map (·.lane)).getD 7)
      | .fault => answer .fault 6 false
      | .claimed | .waiting | .moving | .verifying => answer .refused 7 false
      | .free | .returning => u := by
  have hstat : ∀ st (r : Reason) w, u.hopstat h (hopBit k) st r w = { u with
      txQueue := u.txQueue ++ [⟨.frame (.hopstat h (BitVec.twoPow 8 k) st r.code4 w), false, false⟩] } :=
    fun st r w => State.enqueue_of_room hroom _
  simp only [State.stepElem, hstat]
  rfl

/-- Settles O43: cooling first, then the one element that holds the hop (`State.stepElem_of_room`). -/
theorem coldStepMovesHop : Obligations.ColdStepMovesHop := by
  intro s h k j hn hhead hroom
  obtain ⟨v, hv⟩ := s.popFrame.forElems_modElem_touches allElems (Element.seeCold h)
  have hcool : s.popFrame.coolElems h = { s.popFrame with elems := v } := hv
  have helem : ∀ e, ({ s.popFrame with elems := v } : State).elem e = (s.elem e).map (Element.seeCold h) := fun e => by
    rw [← hcool, State.elem_coolElems]
    rfl
  have howner : ∀ e x, ({ s.popFrame with elems := v } : State).elem e = some x → ∃ y, s.elem e = some y ∧
      x.owner = y.owner := fun e x hx => by
    rw [helem] at hx
    obtain ⟨y, hy, rfl⟩ := Option.map_eq_some_iff.1 hx
    exact ⟨y, hy, y.seeCold_owner h⟩
  have hexec := (exec_frameSeenCold_of_headFrame hhead).trans
    (congrArg _ (if_pos (State.fromAnchor_iff.2 ⟨hn, rfl⟩)))
  rw [State.seeCold_step, hcool] at hexec
  refine ⟨_, { s.popFrame with elems := v }, hexec, rfl, fun e => ?_, fun hnone => ?_, fun e x hx ho hfirst => ?_⟩
  · rw [helem, Element.seeCold_eq]
  · rw [State.hopElem_eq_none fun e x hx => ?_]
    obtain ⟨y, hy, hxy⟩ := howner e x hx
    rw [hxy]
    exact hnone e y hy
  · have hhop := State.hopElem_eq_some hx ho fun f y hy hf => by
      obtain ⟨z, hz, hyz⟩ := howner f y hy
      rw [hyz]
      exact hfirst f z hz hf
    rw [hhop]
    dsimp only
    rw [hx]
    have hroom' : State.roomFor { s.popFrame with elems := v } 1 := hroom.of_eq rfl rfl
    exact State.stepElem_of_room hroom' h k j e x

end Sys2Proof.Machine
end

section
/-!
PROOFS. Work on one element after another where nothing can be granted: what is queued or started is the work's own,
and every other element stays.
-/

namespace Sys2Proof.Machine

/-! ### Work that leaves the moves of others -/

/-- Only the arbiter's fields change; the moves pending and in service stay, in their order, with `ms` and `vs` behind
them, and a channel changes only from IDLE, to pulse for a move of `vs`. -/
structure WorkOn (s t : State) (ms : List MoveEntry) (vs : List Service) : Prop where
  eq       : t = { s with
    elems := t.elems, controls := t.controls, moveQueue := s.moveQueue ++ ms, services := s.services ++ vs
    channels := t.channels }
  channels : ∀ d : ChannelNo, t.channel d = s.channel d ∨
    s.channel d = .idle ∧ ∃ v ∈ vs, v.channel = some d ∧ (t.channel d).pulses v.elem = true

theorem WorkOn.refl (s : State) : WorkOn s s [] [] := ⟨by simp, fun _ => .inl rfl⟩

section
variable {s t : State} {ms : List MoveEntry} {vs : List Service} (h : WorkOn s t ms vs)
include h

theorem WorkOn.moveQueue : t.moveQueue = s.moveQueue ++ ms := by rw [h.eq]

theorem WorkOn.services : t.services = s.services ++ vs := by rw [h.eq]

theorem WorkOn.frame : ArbFrame s t := by rw [h.eq]; exact ⟨rfl, rfl, rfl, rfl, rfl⟩

theorem WorkOn.trans {u : State} {ms' : List MoveEntry} {vs' : List Service} (k : WorkOn t u ms' vs') :
    WorkOn s u (ms ++ ms') (vs ++ vs') := by
  refine ⟨?_, fun d => ?_⟩
  · rw [k.eq, h.eq]
    simp
  · rcases k.channels d with hk | ⟨hidle, v, hv, hch, hp⟩
    · rw [hk]
      exact (h.channels d).imp id fun ⟨hidle, v, hv, hch, hp⟩ => ⟨hidle, v, List.mem_append_left _ hv, hch, hp⟩
    · rcases h.channels d with hd | ⟨hd, v', -, -, hp'⟩
      · exact .inr ⟨hd ▸ hidle, v, List.mem_append_right _ hv, hch, hp⟩
      · rw [hidle] at hp'
        cases hp'

/-- A channel that is IDLE after the work was IDLE before it. -/
theorem WorkOn.idle {d : ChannelNo} (hd : t.channel d = .idle) : s.channel d = .idle := by
  rcases h.channels d with heq | ⟨hidle, -⟩
  · exact heq ▸ hd
  · exact hidle

end

/-- Element `e` has in `t` what it has in `s`: its record, its control input and its moves. -/
structure SameAt (e : ElemNo) (s t : State) : Prop where
  elem     : t.elem e = s.elem e
  control  : t.control e = s.control e
  entries  : t.entriesOf e = s.entriesOf e
  services : t.servicesOf e = s.servicesOf e

theorem SameAt.refl (e : ElemNo) (s : State) : SameAt e s s := ⟨rfl, rfl, rfl, rfl⟩

theorem SameAt.trans {e : ElemNo} {s t u : State} (h : SameAt e s t) (k : SameAt e t u) : SameAt e s u :=
  ⟨k.elem.trans h.elem, k.control.trans h.control, k.entries.trans h.entries, k.services.trans h.services⟩

/-- Work on element `e` alone. -/
structure Alone (e : ElemNo) (s t : State) (ms : List MoveEntry) (vs : List Service) : Prop where
  work     : WorkOn s t ms vs
  own      : (∀ m ∈ ms, m.elem = e) ∧ ∀ v ∈ vs, v.elem = e
  elems    : ∀ f, f ≠ e → t.elem f = s.elem f
  controls : ∀ f, f ≠ e → t.control f = s.control f

theorem Alone.refl (e : ElemNo) (s : State) : Alone e s s [] [] := ⟨.refl s, ⟨nofun, nofun⟩, fun _ _ => rfl, fun _ _ => rfl⟩

theorem Alone.setElem (s : State) (e : ElemNo) (x : Element) : Alone e s (s.setElem e x) [] [] :=
  ⟨⟨by simp [State.setElem], fun _ => .inl rfl⟩, ⟨nofun, nofun⟩,
    fun _ hf => (s.elem_setElem e _ x).trans (if_neg hf), fun _ _ => rfl⟩

theorem Alone.trans {e : ElemNo} {s t u : State} {ms ms' : List MoveEntry} {vs vs' : List Service}
    (h : Alone e s t ms vs) (k : Alone e t u ms' vs') : Alone e s u (ms ++ ms') (vs ++ vs') :=
  ⟨h.work.trans k.work, ⟨fun m hm => (List.mem_append.1 hm).elim (h.own.1 m) (k.own.1 m),
    fun v hv => (List.mem_append.1 hv).elim (h.own.2 v) (k.own.2 v)⟩,
    fun f hf => (k.elems f hf).trans (h.elems f hf), fun f hf => (k.controls f hf).trans (h.controls f hf)⟩

theorem Alone.sameAt {e f : ElemNo} {s t : State} {ms : List MoveEntry} {vs : List Service} (h : Alone e s t ms vs)
    (hf : f ≠ e) : SameAt f s t := by
  refine ⟨h.elems f hf, h.controls f hf, ?_, ?_⟩
  · have hnone : ms.filter (fun m => m.elem == f) = [] :=
      List.filter_eq_nil_iff.2 fun m hm => by simpa [h.own.1 m hm] using hf.symm
    rw [State.entriesOf, h.work.moveQueue, List.filter_append, hnone, List.append_nil, State.entriesOf]
  · have hnone : vs.filter (fun v => v.elem == f) = [] :=
      List.filter_eq_nil_iff.2 fun v hv => by simpa [h.own.2 v hv] using hf.symm
    rw [State.servicesOf, h.work.services, List.filter_append, hnone, List.append_nil, State.servicesOf]

/-! ### Work on each element of a list -/

/-- The moves `ms` and `vs` satisfy `W`, which speaks of their element as it stood in `s` and of their lane. -/
def MovesOf (W : Option Element → Lane → Prop) (s : State) (ms : List MoveEntry) (vs : List Service) : Prop :=
  (∀ m ∈ ms, W (s.elem m.elem) m.lane) ∧ ∀ v ∈ vs, W (s.elem v.elem) v.lane

/-- Each element of the list is worked on once, alone, in a state that keeps `Inv` and has of it what the first state
had; the list's work is all that is done. -/
theorem State.forElems_work {f : ElemNo → State → State} {Inv : State → Prop} {W : Option Element → Lane → Prop}
    (hf : ∀ e s, Inv s → Inv (f e s) ∧ ∃ ms vs, Alone e s (f e s) ms vs ∧ MovesOf W s ms vs) :
    ∀ (es : List ElemNo), es.Nodup → ∀ s, Inv s → Inv (s.forElems es f) ∧
      (∃ ms vs, WorkOn s (s.forElems es f) ms vs ∧ MovesOf W s ms vs ∧
        ∀ e, e ∉ es → SameAt e s (s.forElems es f)) ∧
      ∀ e ∈ es, ∃ u, Inv u ∧ SameAt e s u ∧ SameAt e (f e u) (s.forElems es f)
  | [], _, s, hs => ⟨hs, ⟨[], [], .refl s, ⟨nofun, nofun⟩, fun e _ => .refl e s⟩, nofun⟩
  | a :: es, hes, s, hs => by
    obtain ⟨hnew, hes⟩ := List.nodup_cons.1 hes
    obtain ⟨hinv, ms, vs, halone, hmoves⟩ := hf a s hs
    obtain ⟨hlast, ⟨ms', vs', hwork, hmoves', hothers⟩, heach⟩ := State.forElems_work hf es hes (f a s) hinv
    have hsplit : s.forElems (a :: es) f = (f a s).forElems es f := rfl
    rw [hsplit]
    have hW : ∀ e, (∃ m ∈ ms', m.elem = e) ∨ (∃ v ∈ vs', v.elem = e) → e ≠ a := by
      rintro e he rfl
      have hsame := hothers e hnew
      rcases he with ⟨m, hm, rfl⟩ | ⟨v, hv, rfl⟩
      · have hlen := congrArg List.length hsame.entries
        rw [State.entriesOf, hwork.moveQueue, List.filter_append, List.length_append] at hlen
        have hmem : m ∈ ms'.filter (fun m' => m'.elem == m.elem) := List.mem_filter.2 ⟨hm, by simp⟩
        have hpos := List.length_pos_of_mem hmem
        rw [State.entriesOf] at hlen
        omega
      · have hlen := congrArg List.length hsame.services
        rw [State.servicesOf, hwork.services, List.filter_append, List.length_append] at hlen
        have hmem : v ∈ vs'.filter (fun v' => v'.elem == v.elem) := List.mem_filter.2 ⟨hv, by simp⟩
        have hpos := List.length_pos_of_mem hmem
        rw [State.servicesOf] at hlen
        omega
    refine ⟨hlast, ⟨_, _, halone.work.trans hwork, ⟨fun m hm => ?_, fun v hv => ?_⟩, fun e he => ?_⟩, fun e he => ?_⟩
    · obtain hm | hm := List.mem_append.1 hm
      · exact hmoves.1 m hm
      · rw [← halone.elems m.elem (hW _ (.inl ⟨m, hm, rfl⟩))]
        exact hmoves'.1 m hm
    · obtain hv | hv := List.mem_append.1 hv
      · exact hmoves.2 v hv
      · rw [← halone.elems v.elem (hW _ (.inr ⟨v, hv, rfl⟩))]
        exact hmoves'.2 v hv
    · obtain ⟨hne, hrest⟩ := not_or.1 (mt List.mem_cons.2 he)
      exact (halone.sameAt hne).trans (hothers e hrest)
    · obtain rfl | he := List.mem_cons.1 he
      · exact ⟨s, hs, .refl e s, hothers e hnew⟩
      · obtain ⟨u, hu, hbefore, hafter⟩ := heach e he
        exact ⟨u, hu, (halone.sameAt fun h => hnew (h ▸ he)).trans hbefore, hafter⟩

/-! ### A queued move -/

/-- What a queued move leaves: its entry at the back of the arrival order, or its service record. -/
theorem State.queueMove_alone {s : State} {e : ElemNo} {x : Element} (hx : s.elem e = some x) (t : Throw) (k : Lane)
    (hs : ¬s.grantable) (he : s.hasEntry e = false) :
    ∃ ms vs, Alone e s (s.queueMove e t k) ms vs ∧ ¬(s.queueMove e t k).grantable ∧
      (¬s.startable → ¬(s.queueMove e t k).startable) ∧
      ((s.queueMove e t k).elem e = some x ∧ (s.queueMove e t k).control e = s.control e ∧
          (∃ b, ms = [⟨e, t, k, b⟩]) ∧ vs = [] ∨
        (s.queueMove e t k).elem e = some (x.startMove s.config t) ∧
          (s.queueMove e t k).control e = (if x.cls = .solidState then t else s.control e) ∧ ms = [] ∧
          ∃ v, vs = [v] ∧ v.elem = e ∧ v.target = t ∧ v.lane = k) := by
  by_cases hwait : s.nodeState ≠ .running ∨ laneHeld s.laneHold k = true ∨
      needsChannel x.cls t = true ∧ (s.coilOk = false ∨ ∀ c, s.channel c ≠ .idle)
  · rw [State.queueMove_waits hx t k hs hwait]
    refine ⟨[⟨e, t, k, needsChannel x.cls t⟩], [], ⟨⟨by simp [State.pushMove], fun _ => .inl rfl⟩,
      ⟨by simp, nofun⟩, fun _ _ => rfl, fun _ _ => rfl⟩, ?_, ?_, .inl ⟨hx, rfl, ⟨_, rfl⟩, rfl⟩⟩
    · rintro ⟨hn, hcoil, ⟨c, hc⟩, m, hm, hneeds, hheld⟩
      obtain hold | hnew := List.mem_append.1 hm
      · exact hs ⟨hn, hcoil, ⟨c, hc⟩, m, hold, hneeds, hheld⟩
      · obtain rfl := List.mem_singleton.1 hnew
        rcases hwait with h | h | ⟨-, h | h⟩
        · exact h hn
        · cases h.symm.trans hheld
        · cases h.symm.trans hcoil
        · exact h c hc
    · rintro hstart ⟨hn, m, hm, hneeds, hheld⟩
      obtain hold | hnew := List.mem_append.1 hm
      · exact hstart ⟨hn, m, hold, hneeds, hheld⟩
      · obtain rfl := List.mem_singleton.1 hnew
        rcases hwait with h | h | ⟨h, -⟩
        · exact h hn
        · cases h.symm.trans hheld
        · cases h.symm.trans hneeds
  · obtain ⟨hn, hk, hready⟩ : s.nodeState = .running ∧ laneHeld s.laneHold k = false ∧
        (needsChannel x.cls t = true → s.coilOk = true ∧ ∃ c, s.channel c = .idle) := by
      simpa only [not_or, not_not, Bool.not_eq_true, not_and, Bool.not_eq_false, not_forall] using hwait
    obtain ⟨b, ch, hidle, heq⟩ : ∃ b ch, (∀ c, ch = some c → s.channel c = .idle) ∧
        s.queueMove e t k = s.startMove ⟨e, t, k, b⟩ ch := by
      by_cases hneeds : needsChannel x.cls t = true
      · obtain ⟨hcoil, hc⟩ := hready hneeds
        obtain ⟨c, hc⟩ := State.idleChannel_isSome hc
        exact ⟨true, some c, fun c' h => by cases h; exact State.channel_of_idleChannel hc,
          State.queueMove_of_needs hx t k hs he hneeds hn hk hcoil hc⟩
      · exact ⟨false, none, nofun, State.queueMove_of_needless hx t k (by simpa using hneeds) hn hk⟩
    rw [heq]
    have hx' : s.elem (MoveEntry.mk e t k b).elem = some x := hx
    have hchannel := State.startMove_channel hx' ch
    have hqueue : (s.startMove ⟨e, t, k, b⟩ ch).moveQueue = s.moveQueue := by
      rw [State.startMove_moveQueue hx', State.filter_elem_ne_of_no_entry he]
    have hserve := State.startMove_services hx' ch
    have htouch := s.startMove_touches ⟨e, t, k, b⟩ ch
    have hwas : ∀ c, (s.startMove ⟨e, t, k, b⟩ ch).channel c = .idle → s.channel c = .idle := fun c hc => by
      rw [hchannel] at hc
      split at hc
      · cases hc
      · exact hc
    refine ⟨[], _, ⟨⟨?_, fun d => ?_⟩, ⟨nofun, ?_⟩, fun f hf => ?_, fun f hf => ?_⟩, ?_, ?_,
      .inr ⟨?_, ?_, rfl, s.serviceFor ⟨e, t, k, b⟩ ch x, rfl, rfl, rfl, rfl⟩⟩
    · obtain ⟨_, _, _, _, _, h⟩ := htouch
      rw [h] at hqueue hserve ⊢
      dsimp only at hqueue hserve
      rw [hqueue, hserve, List.append_nil]
      rfl
    · rw [hchannel]
      split
      next h => exact .inr ⟨hidle d h, _, List.mem_singleton_self _, h, by simp [Channel.pulses, State.serviceFor]⟩
      next => exact .inl rfl
    · intro v hv
      rw [List.mem_singleton.1 hv]
      rfl
    · rw [State.startMove_elem hx', if_neg hf]
    · rw [State.startMove_control hx', if_neg fun h => hf h.1]
    · rintro ⟨hn', hcoil, ⟨c, hc⟩, m, hm, hneeds, hheld⟩
      exact hs ⟨hn, htouch.coilOk ▸ hcoil, ⟨c, hwas c hc⟩, m, hqueue ▸ hm, hneeds, htouch.laneHold ▸ hheld⟩
    · rintro hstart ⟨hn', m, hm, hneeds, hheld⟩
      exact hstart ⟨hn, m, hqueue ▸ hm, hneeds, htouch.laneHold ▸ hheld⟩
    · rw [State.startMove_elem hx', if_pos rfl]
    · rw [State.startMove_control hx']
      simp

end Sys2Proof.Machine
end

section
/-!
PROOFS. ACCEPT: the claims of a handle are confirmed one after another (O38).
-/

namespace Sys2Proof.Machine

theorem Element.atTarget_iff {x : Element} : x.atTarget = true ↔ x.target.isSome = true ∧ x.commanded = x.target ∧
    x.target.map Sensed.throw = some x.sensed ∧ (x.cls = .failsafe → x.hold = none ∨ x.hold = x.target) := by
  unfold Element.atTarget
  cases ht : x.target with
  | none => simp
  | some t =>
    simp only [Bool.and_eq_true, Bool.or_eq_true, beq_iff_eq, bne_iff_ne, Option.isSome_some, true_and,
      Option.map_some, Option.some.injEq, and_assoc]
    rw [eq_comm (a := x.sensed), or_assoc, imp_iff_not_or]

theorem State.anyElem_iff {s : State} {p : Element → Bool} :
    s.anyElem p = true ↔ ∃ e x, s.elem e = some x ∧ p x = true := by
  simp only [State.anyElem, List.any_eq_true, mem_allElems, true_and]
  refine exists_congr fun e => ?_
  cases s.elem e <;> simp

/-- The mask of a handle depends on the handles and masks of the owners only. -/
theorem State.maskOf_congr {s t : State} (h : ∀ e, ((t.elem e).bind (·.owner)).map (fun o => (o.handle, o.mask)) =
    ((s.elem e).bind (·.owner)).map (fun o => (o.handle, o.mask))) (hd : Handle) : t.maskOf hd = s.maskOf hd := by
  have hmask : ∀ u : State, u.maskOf hd = (((allElems.filterMap fun e =>
      ((u.elem e).bind (·.owner)).map (fun o => (o.handle, o.mask))).find? (fun p => p.1 == hd)).map (·.2)).getD 0 := by
    intro u
    have hmap : (allElems.filterMap fun e => ((u.elem e).bind (·.owner)).map (fun o => (o.handle, o.mask))) =
        u.owners.map (fun o => (o.handle, o.mask)) := by
      rw [State.owners, List.map_filterMap]
    have hp : ((fun p : Handle × HopMask => p.1 == hd) ∘ fun o : Owner => (o.handle, o.mask)) = fun o => o.handle == hd := rfl
    rw [hmap, List.find?_map, hp, State.maskOf]
    cases u.owners.find? (fun o => o.handle == hd) <;> rfl
  rw [hmask, hmask]
  simp only [h]

/-! ### One claim (R11, R102) -/

/-- What ACCEPT makes of element `e`: it stays, or its claim is confirmed, at its target or with its move queued. -/
inductive ConfirmedAs (h : Handle) (e : ElemNo) (s t : State) (ms : List MoveEntry) (vs : List Service) : Prop
  | left (other : ∀ x, s.elem e = some x → x.claimedFor h = false) (eq : t = s) (entries : ms = []) (services : vs = [])
  | set (x : Element) (before : s.elem e = some x) (claimed : x.claimedFor h = true) (reached : x.atTarget = true)
      (elem : t.elem e = some ({ x with owner := x.owner.map Owner.confirm } : Element).toSet)
      (control : t.control e = s.control e) (entries : ms = []) (services : vs = [])
  | waits (x : Element) (k : Throw) (o : Owner) (b : Bool) (before : s.elem e = some x) (claimed : x.claimedFor h = true)
      (away : x.atTarget = false) (target : x.target = some k) (owner : x.owner = some o)
      (elem : t.elem e = some { x with owner := some o.confirm, state := .waiting, retry := false })
      (control : t.control e = s.control e) (entries : ms = [⟨e, k, o.lane, b⟩]) (services : vs = [])
  | moves (x : Element) (k : Throw) (o : Owner) (v : Service) (before : s.elem e = some x)
      (claimed : x.claimedFor h = true) (away : x.atTarget = false) (target : x.target = some k) (owner : x.owner = some o)
      (elem : t.elem e = some (Element.startMove s.config k
        { x with owner := some o.confirm, state := .waiting, retry := false }))
      (control : t.control e = if x.cls = .solidState then k else s.control e) (entries : ms = [])
      (services : vs = [v]) (of : v.elem = e ∧ v.target = k ∧ v.lane = o.lane)

theorem State.confirm_alone {s : State} (hs : s.lawful) (hgrant : ¬s.grantable) (h : Handle) (e : ElemNo) :
    ¬(s.confirm h e).grantable ∧ (¬s.startable → ¬(s.confirm h e).startable) ∧
      ∃ ms vs, Alone e s (s.confirm h e) ms vs ∧ ConfirmedAs h e s (s.confirm h e) ms vs := by
  have hleft : (∀ x, s.elem e = some x → x.claimedFor h = false) → s.confirm h e = s := fun hnone => by
    unfold State.confirm
    split
    next => rfl
    next x hx => rw [hnone x hx]; rfl
  by_cases hclaim : ∃ x, s.elem e = some x ∧ x.claimedFor h = true
  · obtain ⟨x, hx, hc⟩ := hclaim
    have hstate := Element.claimedFor_state hc
    by_cases hat : x.atTarget = true
    · have heq : s.confirm h e = s.setElem e ({ x with owner := x.owner.map Owner.confirm } : Element).toSet := by
        simp [State.confirm, hx, hc, hat]
      rw [heq]
      exact ⟨hgrant, id, [], [], .setElem s e _, .set x hx hc hat (s.elem_setElem_self e _) rfl rfl rfl⟩
    · rw [Bool.not_eq_true] at hat
      obtain ⟨k, hk⟩ := Option.isSome_iff_exists.1 (((hs e).state x hx).hasTarget (.inl hstate))
      obtain ⟨o, ho⟩ := Option.isSome_iff_exists.1 (((hs e).state x hx).owned (.inl hstate))
      have heq : s.confirm h e = (s.setElem e
          { x with owner := some o.confirm, state := .waiting, retry := false }).queueMove e k o.lane := by
        simp [State.confirm, hx, hc, hat, hk, ho]
      have hrest := Element.atRest_claimed hstate
      have hentry := State.entriesOf_eq_nil.1 ((hs e).place.bareAt hx hrest.1 hrest.2).entries
      obtain ⟨ms, vs, halone, hgrant', hstart, hcase⟩ := State.queueMove_alone (s.elem_setElem_self e
        { x with owner := some o.confirm, state := .waiting, retry := false }) k o.lane hgrant hentry
      rw [← heq] at halone hgrant' hstart hcase
      refine ⟨hgrant', hstart, ms, vs, (Alone.setElem s e _).trans halone, ?_⟩
      rcases hcase with ⟨helem, hcontrol, ⟨b, rfl⟩, rfl⟩ | ⟨helem, hcontrol, rfl, v, rfl, hv⟩
      · exact .waits x k o b hx hc hat hk ho helem hcontrol rfl rfl
      · exact .moves x k o v hx hc hat hk ho helem hcontrol rfl rfl hv
  · have hnone : ∀ x, s.elem e = some x → x.claimedFor h = false := fun x hx =>
      Bool.eq_false_iff.2 fun hc => hclaim ⟨x, hx, hc⟩
    rw [hleft hnone]
    exact ⟨hgrant, id, [], [], .refl e s, .left hnone rfl rfl rfl⟩

/-! ### All claims of a handle -/

/-- What the confirmation of the claims keeps: the laws, nothing to be granted and, where it was so, nothing to be
started, and the figures. -/
structure ConfirmInv (s u : State) : Prop where
  lawful    : u.lawful
  grantable : ¬u.grantable
  startable : ¬s.startable → ¬u.startable
  config    : u.config = s.config

/-- The claims of the handle whose element is not at its target yet. -/
def confirmMoves (h : Handle) (ox : Option Element) (_ : Lane) : Prop :=
  ∃ x, ox = some x ∧ x.claimedFor h = true ∧ x.atTarget = false

theorem ConfirmedAs.movesOf {h : Handle} {e : ElemNo} {s t : State} {ms : List MoveEntry} {vs : List Service}
    (hc : ConfirmedAs h e s t ms vs) (halone : Alone e s t ms vs) : MovesOf (confirmMoves h) s ms vs := by
  cases hc with
  | left _ _ entries services => subst entries services; exact ⟨nofun, nofun⟩
  | set _ _ _ _ _ _ entries services => subst entries services; exact ⟨nofun, nofun⟩
  | waits x k o b before claimed away =>
    exact ⟨fun m hm => ⟨x, (halone.own.1 m hm).symm ▸ before, claimed, away⟩,
      fun v hv => ⟨x, (halone.own.2 v hv).symm ▸ before, claimed, away⟩⟩
  | moves x k o v before claimed away =>
    exact ⟨fun m hm => ⟨x, (halone.own.1 m hm).symm ▸ before, claimed, away⟩,
      fun v hv => ⟨x, (halone.own.2 v hv).symm ▸ before, claimed, away⟩⟩

/-- The claims of a handle are confirmed each alone. -/
theorem State.confirmAll {s : State} (hs : s.lawful) (hgrant : ¬s.grantable) (h : Handle) :
    ConfirmInv s (s.forElems allElems (State.confirm h)) ∧
      (∃ ms vs, WorkOn s (s.forElems allElems (State.confirm h)) ms vs ∧ MovesOf (confirmMoves h) s ms vs) ∧
      ∀ e, ∃ u ms vs, ConfirmInv s u ∧ SameAt e s u ∧ Alone e u (u.confirm h e) ms vs ∧
        ConfirmedAs h e u (u.confirm h e) ms vs ∧ SameAt e (u.confirm h e) (s.forElems allElems (State.confirm h)) := by
  have hstep : ∀ e u, ConfirmInv s u → ConfirmInv s (State.confirm h e u) ∧ ∃ ms vs,
      Alone e u (State.confirm h e u) ms vs ∧ MovesOf (confirmMoves h) u ms vs := by
    intro e u hu
    obtain ⟨hgrant', hstart, ms, vs, halone, hcase⟩ := State.confirm_alone hu.lawful hu.grantable h e
    exact ⟨⟨(u.confirm_calm h e).lawful hu.lawful, hgrant', fun hs' => hstart (hu.startable hs'),
      halone.work.frame.config.trans hu.config⟩, ms, vs, halone, hcase.movesOf halone⟩
  obtain ⟨hinv, ⟨ms, vs, hwork, hmoves, -⟩, heach⟩ := State.forElems_work hstep allElems allElems_nodup s
    ⟨hs, hgrant, id, rfl⟩
  refine ⟨hinv, ⟨ms, vs, hwork, hmoves⟩, fun e => ?_⟩
  obtain ⟨u, hu, hbefore, hafter⟩ := heach e (mem_allElems e)
  obtain ⟨-, -, ms, vs, halone, hcase⟩ := State.confirm_alone hu.lawful hu.grantable h e
  exact ⟨u, ms, vs, hu, hbefore, halone, hcase, hafter⟩

/-- What ACCEPT leaves of one element, its control input and its moves. -/
structure ConfirmResult (h : Handle) (s t : State) (e : ElemNo) (x : Element) : Prop where
  other : x.claimedFor h = false → t.elem e = some x ∧ t.control e = s.control e
  reached : x.claimedFor h = true → x.atTarget = true → t.control e = s.control e ∧
    t.elem e = some ({ x with owner := x.owner.map Owner.confirm } : Element).toSet
  away : x.claimedFor h = true → x.atTarget = false → ∃ k, x.target = some k ∧ ∃ o, x.owner = some o ∧
    let y := { x with owner := some o.confirm, state := .waiting, retry := false }
    (t.elem e = some y ∧ t.hasEntry e = true ∧ t.control e = s.control e ∧
        (∀ m ∈ t.moveQueue, m.elem = e → m.target = k ∧ m.lane = o.lane) ∨
      t.elem e = some (y.startMove s.config k) ∧ t.hasService e = true ∧
        t.control e = (if x.cls = .solidState then k else s.control e) ∧
        ∀ v ∈ t.services, v.elem = e → v.target = k ∧ v.lane = o.lane)

theorem State.confirmAll_at {s : State} (hs : s.lawful) (hgrant : ¬s.grantable) (h : Handle) {e : ElemNo} {x : Element}
    (hx : s.elem e = some x) : ConfirmResult h s (s.forElems allElems (State.confirm h)) e x := by
  obtain ⟨-, -, heach⟩ := State.confirmAll hs hgrant h
  obtain ⟨u, ms, vs, hu, hbefore, halone, hcase, hafter⟩ := heach e
  have hux : u.elem e = some x := hbefore.elem.trans hx
  have hbare : x.claimedFor h = true → s.entriesOf e = [] ∧ s.servicesOf e = [] := fun hc => by
    have hrest := Element.atRest_claimed (Element.claimedFor_state hc)
    have hbare := (hs e).place.bareAt hx hrest.1 hrest.2
    exact ⟨hbare.entries, hbare.services⟩
  generalize s.forElems allElems (State.confirm h) = t at hafter ⊢
  have hentries : x.claimedFor h = true → t.entriesOf e = ms := fun hc => by
    rw [hafter.entries, State.entriesOf, halone.work.moveQueue, List.filter_append]
    have hnone : u.entriesOf e = [] := hbefore.entries.trans (hbare hc).1
    rw [State.entriesOf] at hnone
    rw [hnone, List.nil_append]
    exact List.filter_eq_self.2 fun m hm => by simp [halone.own.1 m hm]
  have hservices : x.claimedFor h = true → t.servicesOf e = vs := fun hc => by
    rw [hafter.services, State.servicesOf, halone.work.services, List.filter_append]
    have hnone : u.servicesOf e = [] := hbefore.services.trans (hbare hc).2
    rw [State.servicesOf] at hnone
    rw [hnone, List.nil_append]
    exact List.filter_eq_self.2 fun v hv => by simp [halone.own.2 v hv]
  have hcontrol := hafter.control
  have helem := hafter.elem
  cases hcase with
  | left other eq =>
    have hc := other x hux
    exact ⟨fun _ => ⟨helem.trans (by rw [eq]; exact hux), hcontrol.trans (by rw [eq]; exact hbefore.control)⟩, fun hc' => absurd (hc.symm.trans hc') nofun,
      fun hc' => absurd (hc.symm.trans hc') nofun⟩
  | set y before claimed reached elem control =>
    cases hux.symm.trans before
    exact ⟨fun hc => absurd (hc.symm.trans claimed) nofun,
      fun _ _ => ⟨hcontrol.trans (control.trans hbefore.control), helem.trans elem⟩,
      fun _ ha => absurd (ha.symm.trans reached) nofun⟩
  | waits y k o b before claimed away target owner elem control entries services =>
    cases hux.symm.trans before
    refine ⟨fun hc => absurd (hc.symm.trans claimed) nofun, fun _ ha => absurd (ha.symm.trans away) nofun,
      fun _ _ => ⟨k, target, o, owner, .inl ⟨helem.trans elem, ?_, hcontrol.trans (control.trans hbefore.control), ?_⟩⟩⟩
    · rw [← Bool.not_eq_false, ← State.entriesOf_eq_nil, hentries claimed, entries]
      nofun
    · intro m hm he
      have hmem : m ∈ t.entriesOf e := State.mem_entriesOf.2 ⟨hm, he⟩
      rw [hentries claimed, entries, List.mem_singleton] at hmem
      rw [hmem]
      exact ⟨rfl, rfl⟩
  | moves y k o v before claimed away target owner elem control entries services of =>
    cases hux.symm.trans before
    refine ⟨fun hc => absurd (hc.symm.trans claimed) nofun, fun _ ha => absurd (ha.symm.trans away) nofun,
      fun _ _ => ⟨k, target, o, owner, .inr ⟨?_, ?_, ?_, ?_⟩⟩⟩
    · rw [helem, elem, hu.config]
    · rw [← Bool.not_eq_false, ← State.servicesOf_eq_nil, hservices claimed, services]
      nofun
    · rw [hcontrol, control, hbefore.control]
    · intro v' hv' he
      have hmem : v' ∈ t.servicesOf e := State.mem_servicesOf.2 ⟨hv', he⟩
      rw [hservices claimed, services, List.mem_singleton] at hmem
      rw [hmem]
      exact of.2

theorem State.confirmAll_none {s : State} (hs : s.lawful) (hgrant : ¬s.grantable) (h : Handle) {e : ElemNo}
    (hx : s.elem e = none) : (s.forElems allElems (State.confirm h)).elem e = none ∧
      (s.forElems allElems (State.confirm h)).control e = s.control e := by
  obtain ⟨-, -, heach⟩ := State.confirmAll hs hgrant h
  obtain ⟨u, ms, vs, -, hbefore, -, hcase, hafter⟩ := heach e
  have hux : u.elem e = none := hbefore.elem.trans hx
  cases hcase with
  | left other eq => rw [eq] at hafter; exact ⟨hafter.elem.trans hux, hafter.control.trans hbefore.control⟩
  | set _ before => cases hux.symm.trans before
  | waits _ _ _ _ before => cases hux.symm.trans before
  | moves _ _ _ _ before => cases hux.symm.trans before

/-- A confirmation keeps the handles and masks of the owners. -/
theorem State.confirmAll_maskOf {s : State} (hs : s.lawful) (hgrant : ¬s.grantable) (h : Handle) :
    (s.forElems allElems (State.confirm h)).maskOf h = s.maskOf h := by
  refine State.maskOf_congr (fun e => ?_) h
  cases hx : s.elem e with
  | none => rw [(State.confirmAll_none hs hgrant h hx).1]
  | some x =>
    have hresult := State.confirmAll_at hs hgrant h hx
    by_cases hc : x.claimedFor h = true
    · by_cases ha : x.atTarget = true
      · rw [(hresult.reached hc ha).2]
        cases ho : x.owner <;> simp [Element.toSet, ho, Owner.confirm]
      · obtain ⟨k, -, o, ho, ⟨helem, -⟩ | ⟨helem, -⟩⟩ := hresult.away hc (by simpa using ha)
        · rw [helem]
          simp [ho, Owner.confirm]
        · rw [helem]
          simp [ho, Owner.confirm]
    · rw [(hresult.other (by simpa using hc)).1]

/-- Settles O38: the confirmations work on one element after another (`State.forElems_work`). -/
theorem acceptConfirmsClaims : Obligations.AcceptConfirmsClaims := by
  intro s h hhead hn hroom harb hstates hgrant atTarget confirms
  have hat : ∀ x, atTarget x ↔ x.atTarget = true := fun x => Element.atTarget_iff.symm
  have hs : s.popFrame.lawful := s.popFrame_arbSame.calm.lawful (harb.lawful hstates)
  have hgrant' : ¬s.popFrame.grantable := hgrant
  obtain ⟨hinv, ⟨ms, vs, hwork, hmoves⟩, -⟩ := State.confirmAll hs hgrant' h
  have hresult := fun e x hx => State.confirmAll_at (e := e) (x := x) hs hgrant' h hx
  have hnone := fun e hx => State.confirmAll_none (e := e) hs hgrant' h hx
  have hmask := State.confirmAll_maskOf hs hgrant' h
  have hexec : exec .frameSeenAccept s = .next (s.popFrame.seeAccept h) :=
    (exec_frameSeenAccept_of_headFrame hhead).trans (congrArg _ (if_pos (State.fromAnchor_iff.2 ⟨hn, rfl⟩)))
  have hseen : s.popFrame.seeAccept h =
      if s.popFrame.anyElem (fun x => x.claimedFor h && x.atTarget) &&
        (s.popFrame.forElems allElems (State.confirm h)).allSet h then
        (s.popFrame.forElems allElems (State.confirm h)).hopstat h
          ((s.popFrame.forElems allElems (State.confirm h)).maskOf h) .ready .none
          ((s.popFrame.forElems allElems (State.confirm h)).wearOf h)
      else s.popFrame.forElems allElems (State.confirm h) := rfl
  rw [hseen, hmask] at hexec
  generalize s.popFrame.forElems allElems (State.confirm h) = t at *
  have hqueue : t.txQueue = s.txQueue := by rw [hwork.eq]; rfl
  have hroom' : t.roomFor 1 := hroom.of_eq hqueue (by rw [hwork.eq]; rfl)
  have hentered : (s.popFrame.anyElem (fun x => x.claimedFor h && x.atTarget) && t.allSet h) = true ↔
      (∃ e x, s.elem e = some x ∧ x.claimedFor h = true ∧ atTarget x) ∧ t.allSet h = true := by
    rw [Bool.and_eq_true, State.anyElem_iff]
    simp only [Bool.and_eq_true, hat]
    rfl
  have heq : (if s.popFrame.anyElem (fun x => x.claimedFor h && x.atTarget) && t.allSet h then
        t.hopstat h (s.popFrame.maskOf h) .ready .none (t.wearOf h) else t) =
      { t with txQueue := s.txQueue ++
        (if (∃ e x, s.elem e = some x ∧ x.claimedFor h = true ∧ atTarget x) ∧ t.allSet h = true then
          [⟨.frame (.hopstat h (s.maskOf h) .ready 0 (t.wearOf h)), false, false⟩] else []) } := by
    by_cases hc : (s.popFrame.anyElem (fun x => x.claimedFor h && x.atTarget) && t.allSet h) = true
    · rw [if_pos hc, if_pos (hentered.1 hc), State.hopstat, State.enqueue_of_room hroom', hqueue]
      rfl
    · rw [if_neg hc, if_neg fun h => hc (hentered.2 h), List.append_nil, ← hqueue]
  refine ⟨_, vs, ms, hexec.trans (congrArg _ heq), ?_, fun m hm => ?_, fun v hv => ?_, hwork.channels, hinv.grantable,
    hinv.startable, hnone, fun e x hx => ⟨(hresult e x hx).other, fun hc ha => (hresult e x hx).reached hc ((hat x).1 ha),
      fun hc ha => (hresult e x hx).away hc (Bool.eq_false_iff.2 fun h => ha ((hat x).2 h))⟩, rfl⟩
  · rw [hwork.eq]
    rfl
  · obtain ⟨x, hx, hc, ha⟩ := hmoves.1 m hm
    exact ⟨x, hx, hc, fun h => Bool.false_ne_true (ha.symm.trans ((hat x).1 h))⟩
  · obtain ⟨x, hx, hc, ha⟩ := hmoves.2 v hv
    exact ⟨x, hx, hc, fun h => Bool.false_ne_true (ha.symm.trans ((hat x).1 h))⟩

end Sys2Proof.Machine
end

section
/-!
PROOFS. RELEASE: the elements of a handle are released one after another (O44).
-/

namespace Sys2Proof.Machine

/-! ### One element (R15, R16, R109) -/

/-- What release processing leaves of an element that needs no move: FAULT by its latch, or FREE (R16). -/
def Element.releasedStill (x : Element) : Element :=
  if x.faultLatch = true then x.disown.toLatched else x.disown.toFree

/-- What RELEASE makes of element `e`: it stays; it changes without a move; or it goes back, its move queued. -/
inductive ReleasedAs (h : Handle) (e : ElemNo) (s t : State) (ms : List MoveEntry) (vs : List Service) : Prop
  | left (other : ∀ x, s.elem e = some x → x.ownedBy h = false) (elem : t.elem e = s.elem e)
      (control : t.control e = s.control e) (entries : ms = []) (services : vs = [])
  | still (x y : Element) (before : s.elem e = some x) (owned : x.ownedBy h = true)
      (of : x.state = .claimed ∧ y = x.toFree ∨ x.state = .moving ∧ y = { x with owner := none, releaseOnCompletion := true } ∨
        (x.state ≠ .claimed ∧ x.state ≠ .moving) ∧ (x.faultLatch = true ∨ x.releaseTarget = none) ∧ y = x.releasedStill)
      (elem : t.elem e = some y) (control : t.control e = s.control e) (entries : ms = []) (services : vs = [])
  | waits (x : Element) (k : Throw) (b : Bool) (before : s.elem e = some x) (owned : x.ownedBy h = true)
      (held : x.state ≠ .claimed ∧ x.state ≠ .moving) (latch : x.faultLatch = false) (target : x.releaseTarget = some k)
      (elem : t.elem e = some (x.disown.toReturning k)) (control : t.control e = s.control e)
      (entries : ms = [⟨e, k, 7, b⟩]) (services : vs = [])
  | moves (x : Element) (k : Throw) (v : Service) (before : s.elem e = some x) (owned : x.ownedBy h = true)
      (held : x.state ≠ .claimed ∧ x.state ≠ .moving) (latch : x.faultLatch = false) (target : x.releaseTarget = some k)
      (elem : t.elem e = some ((x.disown.toReturning k).startMove s.config k))
      (control : t.control e = if x.cls = .solidState then k else s.control e) (entries : ms = [])
      (services : vs = [v]) (of : v.elem = e ∧ v.target = k ∧ v.lane = 7)

theorem State.releaseOwned_alone {s : State} {h : Handle} {e : ElemNo} (hgrant : ¬s.grantable)
    (hbare : ∀ x, s.elem e = some x → x.ownedBy h = true → x.state ≠ .moving → s.hasEntry e = false)
    (howned : ∀ x, s.elem e = some x → x.ownedBy h = true → x.state ≠ .free ∧ x.state ≠ .returning) :
    ¬(s.releaseOwned h e).grantable ∧ (¬s.startable → ¬(s.releaseOwned h e).startable) ∧
      ∃ ms vs, Alone e s (s.releaseOwned h e) ms vs ∧ ReleasedAs h e s (s.releaseOwned h e) ms vs := by
  rcases s.releaseOwned_cases h e with ⟨x, hx, ho, heq⟩ | ⟨hnot, heq⟩
  · rw [heq]
    have hset := fun y : Element => s.elem_setElem_self e y
    rcases x.state.release_cases with hs | hs | hs | hs
    · rw [State.releaseSeen_claimed hx hs]
      exact ⟨hgrant, id, [], [], .setElem s e _, .still x _ hx ho (.inl ⟨hs, rfl⟩) (hset _) rfl rfl rfl⟩
    · rw [State.releaseSeen_moving hx hs]
      exact ⟨hgrant, id, [], [], .setElem s e _, .still x _ hx ho (.inr (.inl ⟨hs, rfl⟩)) (hset _) rfl rfl rfl⟩
    · have hheld : x.state ≠ .claimed ∧ x.state ≠ .moving := by rcases hs with hs | hs | hs | hs | hs <;> simp [hs]
      rw [State.releaseSeen_held hx hs, State.release_of_elem hx, State.releaseFromStep2]
      by_cases hlatch : x.faultLatch = true
      · have hstill : x.releasedStill = x.disown.toLatched := if_pos hlatch
        rw [if_pos (show x.disown.faultLatch = true from hlatch), ← hstill]
        exact ⟨hgrant, id, [], [], .setElem s e _,
          .still x _ hx ho (.inr (.inr ⟨hheld, .inl hlatch, rfl⟩)) (hset _) rfl rfl rfl⟩
      · have hstill : x.releasedStill = x.disown.toFree := if_neg hlatch
        rw [if_neg (show ¬x.disown.faultLatch = true from hlatch), show x.disown.releaseTarget = x.releaseTarget from rfl]
        cases ht : x.releaseTarget with
        | none =>
          dsimp only
          rw [← hstill]
          exact ⟨hgrant, id, [], [], .setElem s e _,
            .still x _ hx ho (.inr (.inr ⟨hheld, .inr ht, rfl⟩)) (hset _) rfl rfl rfl⟩
        | some k =>
          obtain ⟨ms, vs, halone, hgrant', hstart, hcase⟩ := State.queueMove_alone (hset (x.disown.toReturning k)) k 7
            hgrant (hbare x hx ho hheld.2)
          refine ⟨hgrant', hstart, ms, vs, (Alone.setElem s e _).trans halone, ?_⟩
          have hlatch : x.faultLatch = false := by simpa using hlatch
          rcases hcase with ⟨helem, hcontrol, ⟨b, rfl⟩, rfl⟩ | ⟨helem, hcontrol, rfl, v, rfl, hv⟩
          · exact .waits x k b hx ho hheld hlatch ht helem hcontrol rfl rfl
          · exact .moves x k v hx ho hheld hlatch ht helem hcontrol rfl rfl hv
    · obtain ⟨hfree, hreturning⟩ := howned x hx ho
      exact absurd hs (not_or.2 ⟨hfree, hreturning⟩)
  · rw [heq]
    exact ⟨hgrant, id, [], [], .refl e s, .left hnot rfl rfl rfl rfl⟩

/-! ### All elements of a handle -/

/-- What the releases keep: an element of the handle has no move unless it is MOVING, and is neither FREE nor
RETURNING; nothing is to be granted and, where it was so, nothing to be started; the figures. -/
structure ReleaseInv (h : Handle) (s u : State) : Prop where
  bare      : ∀ e x, u.elem e = some x → x.ownedBy h = true → x.state ≠ .moving →
    u.entriesOf e = [] ∧ u.servicesOf e = []
  owned     : ∀ e x, u.elem e = some x → x.ownedBy h = true → x.state ≠ .free ∧ x.state ≠ .returning
  grantable : ¬u.grantable
  startable : ¬s.startable → ¬u.startable
  config    : u.config = s.config

/-- The moves of a RELEASE are of elements of the handle, in lane 7. -/
def releaseMoves (h : Handle) (ox : Option Element) (k : Lane) : Prop := k = 7 ∧ ox.any (fun x => x.ownedBy h) = true

theorem ReleasedAs.movesOf {h : Handle} {e : ElemNo} {s t : State} {ms : List MoveEntry} {vs : List Service}
    (hc : ReleasedAs h e s t ms vs) (halone : Alone e s t ms vs) : MovesOf (releaseMoves h) s ms vs := by
  cases hc with
  | left _ _ _ entries services => subst entries services; exact ⟨nofun, nofun⟩
  | still _ _ _ _ _ _ _ entries services => subst entries services; exact ⟨nofun, nofun⟩
  | waits x k b before owned held latch target elem control entries services =>
    subst entries services
    refine ⟨fun m hm => ?_, nofun⟩
    rw [List.mem_singleton.1 hm]
    exact ⟨rfl, by rw [before]; exact owned⟩
  | moves x k v before owned held latch target elem control entries services of =>
    subst entries services
    refine ⟨nofun, fun v' hv' => ?_⟩
    rw [List.mem_singleton.1 hv']
    exact ⟨of.2.2, by rw [of.1, before]; exact owned⟩

/-- An element is none of the handle's after its release. -/
theorem ReleasedAs.not_owned {h : Handle} {e : ElemNo} {s t : State} {ms : List MoveEntry} {vs : List Service}
    (hc : ReleasedAs h e s t ms vs) : ∀ y, t.elem e = some y → y.ownedBy h = false := by
  have hnone : ∀ y : Element, y.owner = none → y.ownedBy h = false := fun y hy => by simp [Element.ownedBy, hy]
  cases hc with
  | left other elem => rw [elem]; exact other
  | still x y _ _ of elem =>
    intro z hz
    cases elem.symm.trans hz
    refine hnone y ?_
    rcases of with ⟨-, rfl⟩ | ⟨-, rfl⟩ | ⟨-, -, rfl⟩
    · rfl
    · rfl
    · unfold Element.releasedStill
      split <;> rfl
  | waits x k b _ _ _ _ _ elem =>
    intro z hz
    cases elem.symm.trans hz
    exact hnone _ rfl
  | moves x k v _ _ _ _ _ elem =>
    intro z hz
    cases elem.symm.trans hz
    exact hnone _ (Element.startMove_owner _ _ _)

theorem State.releaseAll {s : State} {h : Handle} (hs : ReleaseInv h s s) :
    ReleaseInv h s (s.forElems allElems (State.releaseOwned h)) ∧
      (∃ ms vs, WorkOn s (s.forElems allElems (State.releaseOwned h)) ms vs ∧ MovesOf (releaseMoves h) s ms vs) ∧
      ∀ e, ∃ u ms vs, ReleaseInv h s u ∧ SameAt e s u ∧ Alone e u (u.releaseOwned h e) ms vs ∧
        ReleasedAs h e u (u.releaseOwned h e) ms vs ∧
        SameAt e (u.releaseOwned h e) (s.forElems allElems (State.releaseOwned h)) := by
  have hone : ∀ e u, ReleaseInv h s u → ¬(u.releaseOwned h e).grantable ∧
      (¬u.startable → ¬(u.releaseOwned h e).startable) ∧
      ∃ ms vs, Alone e u (u.releaseOwned h e) ms vs ∧ ReleasedAs h e u (u.releaseOwned h e) ms vs := fun e u hu =>
    State.releaseOwned_alone hu.grantable (fun x hx ho hm => State.entriesOf_eq_nil.1 (hu.bare e x hx ho hm).1) (hu.owned e)
  have hstep : ∀ e u, ReleaseInv h s u → ReleaseInv h s (State.releaseOwned h e u) ∧ ∃ ms vs,
      Alone e u (State.releaseOwned h e u) ms vs ∧ MovesOf (releaseMoves h) u ms vs := by
    intro e u hu
    obtain ⟨hgrant, hstart, ms, vs, halone, hcase⟩ := hone e u hu
    refine ⟨⟨fun f x hx ho hm => ?_, fun f x hx ho => ?_, hgrant, fun hs' => hstart (hu.startable hs'),
      halone.work.frame.config.trans hu.config⟩, ms, vs, halone, hcase.movesOf halone⟩
    all_goals by_cases hf : f = e
    · subst hf; cases ho.symm.trans (hcase.not_owned x hx)
    · have hsame := halone.sameAt hf
      obtain ⟨hentries, hservices⟩ := hu.bare f x (hsame.elem ▸ hx) ho hm
      exact ⟨hsame.entries.trans hentries, hsame.services.trans hservices⟩
    · subst hf; cases ho.symm.trans (hcase.not_owned x hx)
    · exact hu.owned f x ((halone.sameAt hf).elem ▸ hx) ho
  obtain ⟨hinv, ⟨ms, vs, hwork, hmoves, -⟩, heach⟩ := State.forElems_work hstep allElems allElems_nodup s hs
  refine ⟨hinv, ⟨ms, vs, hwork, hmoves⟩, fun e => ?_⟩
  obtain ⟨u, hu, hbefore, hafter⟩ := heach e (mem_allElems e)
  obtain ⟨-, -, ms, vs, halone, hcase⟩ := hone e u hu
  exact ⟨u, ms, vs, hu, hbefore, halone, hcase, hafter⟩

theorem ReleasedAs.of_same {h : Handle} {e : ElemNo} {s u v t : State} {ms : List MoveEntry} {vs : List Service}
    (hc : ReleasedAs h e u v ms vs) (hbefore : SameAt e s u) (hconfig : u.config = s.config) (hafter : SameAt e v t) :
    ReleasedAs h e s t ms vs := by
  have hb := hbefore.elem
  have hbc := hbefore.control
  cases hc with
  | left other elem control entries services =>
    exact .left (hb ▸ other) (hafter.elem.trans (elem.trans hb)) (hafter.control.trans (control.trans hbc)) entries services
  | still x y before owned of elem control entries services =>
    exact .still x y (hb ▸ before) owned of (hafter.elem.trans elem) (hafter.control.trans (control.trans hbc)) entries
      services
  | waits x k b before owned held latch target elem control entries services =>
    exact .waits x k b (hb ▸ before) owned held latch target (hafter.elem.trans elem)
      (hafter.control.trans (control.trans hbc)) entries services
  | moves x k v before owned held latch target elem control entries services of =>
    exact .moves x k v (hb ▸ before) owned held latch target (hafter.elem.trans (hconfig ▸ elem))
      (hafter.control.trans (hbc ▸ control)) entries services of

/-- What the releases leave of one element and of its moves. -/
theorem State.releaseAll_at {s : State} {h : Handle} (hs : ReleaseInv h s s) (e : ElemNo) : ∃ ms vs,
    ReleasedAs h e s (s.forElems allElems (State.releaseOwned h)) ms vs ∧
      (s.forElems allElems (State.releaseOwned h)).entriesOf e = s.entriesOf e ++ ms ∧
      (s.forElems allElems (State.releaseOwned h)).servicesOf e = s.servicesOf e ++ vs := by
  obtain ⟨-, -, heach⟩ := State.releaseAll hs
  obtain ⟨u, ms, vs, hu, hbefore, halone, hcase, hafter⟩ := heach e
  refine ⟨ms, vs, hcase.of_same hbefore hu.config hafter, ?_, ?_⟩
  · rw [hafter.entries, ← hbefore.entries, State.entriesOf, halone.work.moveQueue, List.filter_append]
    exact congrArg _ (List.filter_eq_self.2 fun m hm => by simp [halone.own.1 m hm])
  · rw [hafter.services, ← hbefore.services, State.servicesOf, halone.work.services, List.filter_append]
    exact congrArg _ (List.filter_eq_self.2 fun v hv => by simp [halone.own.2 v hv])

/-! ### RELEASE -/

theorem State.withdrawWaiting_eq (s : State) (h : Handle) : s.withdrawWaiting h = { s with
    moveQueue := s.moveQueue.filter (fun m => !(s.elem m.elem).any (fun x => x.ownedBy h && x.state == .waiting)) } := by
  unfold State.withdrawWaiting
  congr 1
  refine List.filter_congr fun m _ => ?_
  cases s.elem m.elem <;> rfl

/-- The releases begin once the moves of the WAITING elements are withdrawn. -/
theorem State.withdrawWaiting_releaseInv {s : State} (hs : s.lawful) (hgrant : ¬s.grantable) (h : Handle) :
    ReleaseInv h (s.withdrawWaiting h) (s.withdrawWaiting h) where
  bare e x hx ho hm := by
    have hx : s.elem e = some x := hx
    by_cases hw : x.waitsFor h = true
    · have hbare := State.withdrawWaiting_bareAt hx hw (hs e)
      exact ⟨hbare.entries, hbare.services⟩
    · have hwaiting : x.state ≠ .waiting := fun hstate => hw (by simp [Element.waitsFor, ho, hstate])
      have hreturning : x.state ≠ .returning := fun hstate => by
        have hnone := ((hs e).state x hx).noOwner (.inr hstate)
        simp [Element.ownedBy, hnone] at ho
      have hrest : x.atRest := Element.atRest_of_state hwaiting hm fun hstate => absurd hstate hreturning
      have hspares : State.Spares e s (s.withdrawWaiting h) := State.withdrawWaiting_spares fun y hy => by
        cases hx.symm.trans hy
        simpa using hw
      obtain ⟨-, hbare⟩ := hspares.of_bareAt ((hs e).place.bareAt hx hrest.1 hrest.2)
      exact ⟨hbare.entries, hbare.services⟩
  owned e x hx ho := by
    have hx : s.elem e = some x := hx
    have hno : ¬(x.state = .free ∨ x.state = .returning) := fun hstate => by
      have hnone := ((hs e).state x hx).noOwner hstate
      simp [Element.ownedBy, hnone] at ho
    exact not_or.1 hno
  grantable := fun ⟨hn, hcoil, hc, m, hm, hrest⟩ => hgrant ⟨hn, hcoil, hc, m, List.mem_of_mem_filter hm, hrest⟩
  startable := id
  config := rfl

/-- What RELEASE leaves of one element, its control input and its moves, where `back` is where release processing
sends it. -/
structure ReleaseResult (h : Handle) (s t : State) (e : ElemNo) (x : Element) (back : Option Throw) (y : Element) :
    Prop where
  other   : x.ownedBy h = false → t.elem e = some x ∧ t.hasEntry e = s.hasEntry e
  control : t.control e = if x.ownedBy h = true ∧ x.cls = .solidState ∧ x.state ≠ .moving ∧
    t.hasService e = true then back.getD 0 else s.control e
  claimed : x.ownedBy h = true → x.state = .claimed → t.elem e = some x.toFree
  moving  : x.ownedBy h = true → x.state = .moving → t.elem e = some { x with owner := none, releaseOnCompletion := true }
  held    : x.ownedBy h = true → x.state ≠ .claimed → x.state ≠ .moving →
    (x.faultLatch = true → t.elem e = some { y with state := .fault, target := none }) ∧
    (x.faultLatch = false → back = none →
      t.elem e = some { y with state := .free, target := none } ∧ t.hasEntry e = false) ∧
    (∀ k, x.faultLatch = false → back = some k →
      let z := { y with state := .returning, target := some k }
      (t.elem e = some z ∧ t.hasEntry e = true ∧ (∀ m ∈ t.moveQueue, m.elem = e → m.target = k ∧ m.lane = 7) ∨
        t.elem e = some (z.startMove s.config k) ∧ t.hasService e = true ∧
          ∀ v ∈ t.services, v.elem = e → v.target = k ∧ v.lane = 7))

/-- The result, from what became of the element and of its moves. -/
theorem ReleasedAs.result {h : Handle} {e : ElemNo} {s t : State} {ms : List MoveEntry} {vs : List Service}
    {x : Element} (hc : ReleasedAs h e s t ms vs) (hx : s.elem e = some x)
    (hbare : x.ownedBy h = true → x.state ≠ .moving → s.entriesOf e = [] ∧ s.servicesOf e = [])
    (hentries : t.entriesOf e = s.entriesOf e ++ ms) (hservices : t.servicesOf e = s.servicesOf e ++ vs) :
    ReleaseResult h s t e x x.releaseTarget x.disown.toFree := by
  have hno : vs = [] → (x.ownedBy h = true → x.state ≠ .moving → t.hasService e = false) := fun hvs ho hm => by
    rw [← State.servicesOf_eq_nil, hservices, (hbare ho hm).2, hvs, List.append_nil]
  cases hc with
  | left other elem control entries services =>
    have ho := other x hx
    have hnot : ¬x.ownedBy h = true := by simp [ho]
    refine ⟨fun _ => ⟨elem.trans hx, State.hasEntry_congr ?_⟩, ?_, fun h => absurd h hnot, fun h => absurd h hnot,
      fun h => absurd h hnot⟩
    · rw [hentries, entries, List.append_nil]
    · rw [if_neg fun h => hnot h.1, control]
  | still x' y before owned of elem control entries services =>
    cases hx.symm.trans before
    have hyes : ¬x.ownedBy h = false := by simp [owned]
    refine ⟨fun h => absurd h hyes, ?_, fun _ hs => ?_, fun _ hs => ?_, fun _ hclaimed hmoving => ⟨fun hl => ?_,
      fun hl ht => ⟨?_, ?_⟩, fun k hl ht => ?_⟩⟩
    · rw [if_neg, control]
      rintro ⟨ho, -, hm, hserve⟩
      cases (hno services ho hm).symm.trans hserve
    all_goals rcases of with ⟨hstate, rfl⟩ | ⟨hstate, rfl⟩ | ⟨⟨hc, hm⟩, hwhy, rfl⟩
    · exact elem
    · cases hs.symm.trans hstate
    · exact absurd hs hc
    · cases hs.symm.trans hstate
    · exact elem
    · exact absurd hs hm
    · exact absurd hstate hclaimed
    · exact absurd hstate hmoving
    · rw [elem, Element.releasedStill, if_pos hl]; rfl
    · exact absurd hstate hclaimed
    · exact absurd hstate hmoving
    · rw [elem, Element.releasedStill, if_neg (by simp [hl])]; rfl
    · exact absurd hstate hclaimed
    · exact absurd hstate hmoving
    · rw [← State.entriesOf_eq_nil, hentries, (hbare owned hm).1, entries, List.append_nil]
    · exact absurd hstate hclaimed
    · exact absurd hstate hmoving
    · rcases hwhy with hwhy | hwhy
      · cases hwhy.symm.trans hl
      · cases hwhy.symm.trans ht
  | waits x' k b before owned held latch target elem control entries services =>
    cases hx.symm.trans before
    have hyes : ¬x.ownedBy h = false := by simp [owned]
    have hmine : t.entriesOf e = [⟨e, k, 7, b⟩] := by rw [hentries, (hbare owned held.2).1, entries, List.nil_append]
    refine ⟨fun h => absurd h hyes, ?_, fun _ hs => absurd hs held.1, fun _ hs => absurd hs held.2,
      fun _ _ _ => ⟨fun hl => absurd (hl.symm.trans latch) nofun, fun _ ht => absurd (ht.symm.trans target) nofun,
        fun k' _ ht => .inl ?_⟩⟩
    · rw [if_neg, control]
      rintro ⟨ho, -, hm, hserve⟩
      cases (hno services ho hm).symm.trans hserve
    · cases target.symm.trans ht
      refine ⟨elem, ?_, fun m hm he => ?_⟩
      · rw [← Bool.not_eq_false, ← State.entriesOf_eq_nil, hmine]
        nofun
      · have hmem : m ∈ t.entriesOf e := State.mem_entriesOf.2 ⟨hm, he⟩
        rw [hmine, List.mem_singleton] at hmem
        rw [hmem]
        exact ⟨rfl, rfl⟩
  | moves x' k v before owned held latch target elem control entries services of =>
    cases hx.symm.trans before
    have hyes : ¬x.ownedBy h = false := by simp [owned]
    have hmine : t.servicesOf e = [v] := by rw [hservices, (hbare owned held.2).2, services, List.nil_append]
    have hserve : t.hasService e = true := by
      rw [← Bool.not_eq_false, ← State.servicesOf_eq_nil, hmine]
      nofun
    refine ⟨fun h => absurd h hyes, ?_, fun _ hs => absurd hs held.1, fun _ hs => absurd hs held.2,
      fun _ _ _ => ⟨fun hl => absurd (hl.symm.trans latch) nofun, fun _ ht => absurd (ht.symm.trans target) nofun,
        fun k' _ ht => .inr ?_⟩⟩
    · rw [control, target]
      by_cases hcls : x.cls = .solidState
      · rw [if_pos hcls, if_pos ⟨owned, hcls, held.2, hserve⟩]
        rfl
      · rw [if_neg hcls, if_neg fun h => hcls h.2.1]
    · cases target.symm.trans ht
      refine ⟨elem, hserve, fun v' hv' he => ?_⟩
      have hmem : v' ∈ t.servicesOf e := State.mem_servicesOf.2 ⟨hv', he⟩
      rw [hmine, List.mem_singleton] at hmem
      rw [hmem]
      exact of.2

/-- Settles O44: withdrawals first, then the releases work on one element after another (`State.forElems_work`). -/
theorem releaseFreesElements : Obligations.ReleaseFreesElements := by
  intro s h r hhead hn harb hstates hgrant
  have hs : s.popFrame.lawful := s.popFrame_arbSame.calm.lawful (harb.lawful hstates)
  have hinv := State.withdrawWaiting_releaseInv hs hgrant h
  have hat := State.releaseAll_at hinv
  obtain ⟨hend, ⟨ms, vs, hwork, hmoves⟩, -⟩ := State.releaseAll hinv
  have hexec : exec .frameSeenRelease s = .next ((s.popFrame.releaseHandle h).ownRelease h.anchor h) :=
    (exec_frameSeenRelease_of_headFrame hhead).trans (congrArg _ (if_pos (State.fromAnchor_iff.2 ⟨hn, rfl⟩)))
  rw [State.releaseHandle_eq] at hexec
  generalize (s.popFrame.withdrawWaiting h).forElems allElems (State.releaseOwned h) = t at *
  have hslots : t.slots = s.slots := by rw [hwork.eq]; rfl
  have heq : t.ownRelease h.anchor h = { t with
      slots := if h.anchor = s.address ∧ (s.slot h.gate).state = .releasing then s.slots.set h.gate Slot.idle
        else s.slots } := by
    have haddress : t.address = s.address := by rw [hwork.eq]; rfl
    have hcond : (h.anchor = t.address ∧ (t.slot h.gate).state = .releasing) ↔
        h.anchor = s.address ∧ (s.slot h.gate).state = .releasing := by
      rw [haddress, State.slot_congr hslots]
    rw [State.ownRelease, ← hslots]
    by_cases hc : h.anchor = s.address ∧ (s.slot h.gate).state = .releasing
    · rw [if_pos (hcond.2 hc), if_pos hc]; rfl
    · rw [if_neg fun h => hc (hcond.1 h), if_neg hc]
  have hholds : t.holds h = false := by
    rw [Bool.eq_false_iff, ne_eq, State.holds, State.anyElem_iff]
    rintro ⟨e, y, hy, ho⟩
    obtain ⟨_, _, hcase, -, -⟩ := hat e
    cases ho.symm.trans (hcase.not_owned y hy)
  refine ⟨_, vs, ms, hexec.trans (congrArg _ heq), hholds, ?_, hmoves.1, hmoves.2, hwork.channels, hend.grantable,
    fun hstart => hend.startable fun ⟨hn, m, hm, hrest⟩ => hstart ⟨hn, m, List.mem_of_mem_filter hm, hrest⟩,
    fun e x hx => ?_⟩
  · rw [hwork.eq, State.withdrawWaiting_eq]
    rfl
  · obtain ⟨ms', vs', hcase, hentries, hservices⟩ := hat e
    have hresult := hcase.result hx (fun ho hm => hinv.bare e x hx ho hm) hentries hservices
    dsimp only
    rw [← Element.releaseTarget_eq]
    refine ⟨fun ho => ⟨(hresult.other ho).1, (hresult.other ho).2.trans (State.hasEntry_congr ?_)⟩, hresult.control,
      hresult.claimed, hresult.moving, hresult.held⟩
    rw [State.withdrawWaiting_entriesOf, if_neg]
    · rfl
    · rw [show s.popFrame.elem e = some x from hx]
      simp [Element.waitsFor, ho]

end Sys2Proof.Machine
end

section
/-!
PROOFS. The verify reads, element by element of the group that is read (O11, O12), and the end of the first full loop
(O13).
-/

namespace Sys2Proof.Machine

/-! ### The read judges its group in ascending order (R58) -/

theorem exec_senseGroupRead {s : State} (hclock : s.scanClock.isSome = true) (contacts : List ThrowSet) :
    exec (.senseGroupRead contacts) s = .next (s.readGroup contacts) := by
  change execSenseGroupRead contacts s = _
  exact if_pos hclock

/-- A read that does not end the first full loop stores and judges (R57, R58). -/
theorem State.readGroup_of_not_end {s : State} (hs : ¬(s.nodeState = .seeding ∧ s.scanReads % 2 = 1))
    (contacts : List ThrowSet) : s.readGroup contacts =
      (allElems.filter (fun e => e.val / 8 == s.scanReads % 2)).foldl (fun u e => u.judge e) (s.afterStore contacts) := by
  have hgroup : groupElems s.nextGroup = allElems.filter (fun e => e.val / 8 == s.scanReads % 2) :=
    groupElems_eq_filter _ (Nat.mod_lt _ (by decide))
  have hnode : ((s.afterStore contacts).forElems (groupElems s.nextGroup) State.judge).nodeState = s.nodeState :=
    State.forElems_nodeState (fun e s => s.judge_nodeState e) _ _
  rw [State.readGroup_eq, if_neg, hgroup]
  · rfl
  · rintro ⟨hn, hodd⟩
    exact hs ⟨hnode ▸ hn, hodd⟩

theorem allElems_group_split (e : ElemNo) : allElems.filter (fun f => f.val / 8 == e.val / 8) =
    allElems.filter (fun f => f.val / 8 == e.val / 8 && f < e) ++
      e :: allElems.filter (fun f => f.val / 8 == e.val / 8 && e < f) := by
  revert e
  decide

/-- The judgement of one element of the group, between those of the lower and of the higher numbered. -/
theorem State.readGroup_at {s : State} (hs : s.nodeState ≠ .seeding) {e : ElemNo} (he : e.val / 8 = s.scanReads % 2)
    (contacts : List ThrowSet) : s.readGroup contacts = ((s.judgedBelow contacts e).judge e).judgeAbove e := by
  rw [State.readGroup_of_not_end fun h => hs h.1, ← he, allElems_group_split, List.foldl_append, List.foldl_cons]
  rfl

theorem Element.readMatches_iff {x : Element} : x.readMatches = true ↔ x.commanded.map Sensed.throw = some x.sensed := by
  unfold Element.readMatches
  cases x.commanded with
  | none => simp
  | some t => rw [Option.map_some, Option.some.injEq, beq_iff_eq, eq_comm]

/-! ### Captures (R155) -/

/-- The fault record after a capture: the first fault, or one later fault more. -/
def FaultRecord.after (fl : FaultRecord) (k : FaultKind) (loc : Option ElemNo) (h : Option Handle) : FaultRecord :=
  if fl.kind = none then ⟨some k, loc, h, 0⟩ else { fl with later := min (fl.later + 1) 15 }

/-- The NOTICE of a capture. -/
def captureNotice (k : FaultKind) : TxEntry := .new (.frame (.notice .faultCaptured none (BitVec.ofNat 5 k.code)))

/-- The teardown frames that wait outside, as they join the transmit queue (R159). -/
def State.waitingEntries (s : State) : List TxEntry :=
  ((s.restart.map (·.waiting)).getD []).map (fun f => ⟨.frame f, false, false⟩)

theorem State.mem_enqueueLast {s : State} {i : TxItem} {y : TxEntry} (hy : y ∈ (s.enqueueLast i).txQueue) :
    y ∈ s.txQueue ∨ y = .new i ∨ y ∈ s.waitingEntries := by
  have hfill : ∀ z ∈ s.fillTeardown.txQueue, z ∈ s.txQueue ∨ z ∈ s.waitingEntries := by
    intro z hz
    unfold State.fillTeardown at hz
    split at hz
    next => exact .inl hz
    next r hr =>
      refine (List.mem_append.1 hz).imp id fun hnew => ?_
      obtain ⟨f, hf, rfl⟩ := List.mem_map.1 hnew
      rw [State.waitingEntries, hr]
      exact List.mem_map.2 ⟨f, List.mem_of_mem_take hf, rfl⟩
  unfold State.enqueueLast at hy
  dsimp only at hy
  split at hy
  · obtain hold | hnew := List.mem_append.1 hy
    · exact (hfill y hold).imp id .inr
    · exact .inr (.inl (List.mem_singleton.1 hnew))
  · exact (hfill y hy).imp id .inr

section
variable (s : State) (k : FaultKind) (loc : Option ElemNo) (h : Option Handle)

theorem State.capture_eq : s.capture k loc h = { s with
    fault := s.fault.after k loc h, txQueue := (s.capture k loc h).txQueue
    txDrops := (s.capture k loc h).txDrops, restart := (s.capture k loc h).restart } := by
  cases hk : s.fault.kind with
  | none =>
    rw [FaultRecord.after, if_pos hk]
    exact State.capture_first hk k loc h
  | some k' =>
    rw [FaultRecord.after, if_neg (by rw [hk]; nofun), State.capture_of_some hk]
    rfl

variable {s} {loc} {h}

theorem State.capture_later (hk : s.fault.kind ≠ none) : s.capture k loc h = { s with fault := s.fault.after k loc h } := by
  obtain ⟨k', hk'⟩ := Option.ne_none_iff_exists'.1 hk
  rw [FaultRecord.after, if_neg hk, State.capture_of_some hk']
  rfl

theorem State.capture_of_room {n : Nat} (hroom : s.roomFor (n + 1)) : s.capture k loc h = { s with
    fault := s.fault.after k loc h
    txQueue := s.txQueue ++ (if s.fault.kind = none then [captureNotice k] else []) } := by
  by_cases hk : s.fault.kind = none
  · rw [FaultRecord.after, if_pos hk, if_pos hk, State.capture_first_of_room hroom hk]
    rfl
  · rw [State.capture_later k hk, if_neg hk, List.append_nil]

theorem State.mem_capture {y : TxEntry} (hy : y ∈ (s.capture k loc h).txQueue) :
    y ∈ s.txQueue ∨ y = captureNotice k ∨ y ∈ s.waitingEntries := by
  by_cases hk : s.fault.kind = none
  · rw [State.capture_of_none hk] at hy
    have hcases := State.mem_enqueueLast hy
    exact hcases
  · rw [State.capture_later k hk] at hy
    exact .inl hy

theorem State.roomFor.capture {n : Nat} (hroom : s.roomFor (n + 1)) : (s.capture k loc h).roomFor n := by
  have heq := State.capture_of_room (loc := loc) (h := h) k hroom
  by_cases hk : s.fault.kind = none
  · rw [if_pos hk] at heq
    rw [heq]
    exact hroom.after rfl rfl
  · rw [if_neg hk, List.append_nil] at heq
    rw [heq]
    exact ⟨hroom.noneWaits, by have := hroom.room; change s.txQueue.length + n ≤ _; omega⟩

end

/-! ### The verify read of a RETURNING element (R17) -/

/-- Settles O12: the three outcomes of `judgeReturn`, with what a capture queues. -/
theorem readVerifiesReturn : Obligations.ReadVerifiesReturn := by
  intro contacts s u e x k _ hclock hs he hu hx hstate hdue howner hk first notice stuck
  have hexec : exec (.senseGroupRead contacts) s = .next ((u.judgeReturn e x).judgeAbove e) := by
    rw [exec_senseGroupRead hclock, State.readGroup_at hs he, ← hu, State.judge_returning hx hstate hdue]
  have hstuck : (u.setElem e x.toStuck).fault.after .stuck (some e) none = stuck.fault := rfl
  refine ⟨_, hexec, fun hmatch => ?_, fun hno hretry => ?_, fun hno hretry => ?_⟩
  · rw [State.judgeReturn, if_pos (Element.readMatches_iff.2 hmatch), Element.toFree, howner]
    rfl
  · rw [State.judgeReturn, if_neg fun h => hno (Element.readMatches_iff.1 h), hretry]
    dsimp only
    rw [hk]
    rfl
  · have heq : u.judgeReturn e x = (u.setElem e x.toStuck).capture .stuck (some e) none := by
      rw [State.judgeReturn, if_neg fun h => hno (Element.readMatches_iff.1 h), if_pos hretry]
    rw [heq]
    refine ⟨fun hlater => State.capture_later _ hlater, fun hfirst hroom => ?_, State.capture_eq _ _ _ _,
      fun y hy => State.mem_capture _ hy⟩
    have hroom' : (u.setElem e x.toStuck).roomFor 1 := hroom.of_eq rfl rfl
    rw [State.capture_of_room _ hroom', if_pos (show (u.setElem e x.toStuck).fault.kind = none from hfirst)]
    rfl

/-! ### The verify read of a VERIFYING element (R59 to R61) -/

/-- Settles O11: the three outcomes of `judgeVerify`, with what a report or a capture queues. -/
theorem readVerifiesMove : Obligations.ReadVerifiesMove := by
  intro contacts s u e x o k _ hclock hs he hu hx hstate howner hk isSet first notice stuck
  have hexec : exec (.senseGroupRead contacts) s = .next ((u.judgeVerify e x).judgeAbove e) := by
    rw [exec_senseGroupRead hclock, State.readGroup_at hs he, ← hu, State.judge_verifying hx hstate]
  refine ⟨_, hexec, fun hmatch => ?_, fun hno hretry => ?_, fun hno hretry => ?_⟩
  · have heq : u.judgeVerify e x = isSet.reportSet o x.stepTarget x.wearWarning := by
      rw [State.judgeVerify, if_pos (Element.readMatches_iff.2 hmatch)]
      dsimp only
      rw [howner]
      rfl
    rw [heq]
    refine ⟨fun hn => if_neg hn, fun hn hroom => ?_⟩
    have hroom' : isSet.roomFor 1 := hroom.of_eq rfl rfl
    have hreport : isSet.reportSet o x.stepTarget x.wearWarning = { isSet with
        txQueue := u.txQueue ++
          (if x.stepTarget = true then
            [⟨.frame (.hopstat o.handle (hopBit o.hop) .ready 0 x.wearWarning), false, false⟩]
          else if isSet.allSet o.handle = true then
            [⟨.frame (.hopstat o.handle o.mask .ready 0 (isSet.wearOf o.handle)), false, false⟩]
          else []) } := by
      have hstat : ∀ m w, isSet.hopstat o.handle m .ready .none w = { isSet with
          txQueue := u.txQueue ++ [⟨.frame (.hopstat o.handle m .ready 0 w), false, false⟩] } := fun m w =>
        State.enqueue_of_room hroom' _
      rw [State.reportSet, if_pos (show isSet.nodeState = .running from hn), hstat, hstat]
      by_cases hstep : x.stepTarget = true
      · rw [if_pos hstep, if_pos hstep]
      · rw [if_neg hstep, if_neg hstep]
        by_cases hall : isSet.allSet o.handle = true
        · rw [if_pos hall, if_pos hall]
        · rw [if_neg hall, if_neg hall, List.append_nil]
    rw [hreport]
    rfl
  · rw [State.judgeVerify, if_neg fun h => hno (Element.readMatches_iff.1 h), hretry]
    dsimp only
    rw [hk, howner]
    rfl
  · have heq : u.judgeVerify e x =
        if ((u.setElem e x.toStuck).capture .stuck (some e) (some o.handle)).nodeState = .running then
          ((u.setElem e x.toStuck).capture .stuck (some e) (some o.handle)).hopstat o.handle (hopBit o.hop) .fault .stuck
            false
        else (u.setElem e x.toStuck).capture .stuck (some e) (some o.handle) := by
      rw [State.judgeVerify, if_neg fun h => hno (Element.readMatches_iff.1 h), if_pos hretry]
      dsimp only
      rw [howner]
      rfl
    have hnode : ((u.setElem e x.toStuck).capture .stuck (some e) (some o.handle)).nodeState = u.nodeState :=
      State.capture_nodeState ..
    rw [hnode] at heq
    refine ⟨fun hn hroom => ?_, fun hn hlater => ?_, fun hn hfirst hroom => ?_, fun hn => ?_⟩
    · have hroom' : (u.setElem e x.toStuck).roomFor 2 := hroom.of_eq rfl rfl
      rw [heq, if_pos hn]
      refine (State.enqueue_of_room (hroom'.capture .stuck) _).trans ?_
      rw [State.capture_of_room _ hroom']
      rfl
    · rw [heq, if_neg hn]
      exact State.capture_later _ hlater
    · have hroom' : (u.setElem e x.toStuck).roomFor 1 := hroom.of_eq rfl rfl
      rw [heq, if_neg hn, State.capture_of_room _ hroom',
        if_pos (show (u.setElem e x.toStuck).fault.kind = none from hfirst)]
      rfl
    · rw [heq, if_neg hn]
      exact ⟨State.capture_eq _ _ _ _, fun y hy => State.mem_capture _ hy⟩

/-! ### The end of the first full loop (R72, R169) -/

/-- With every element FREE a read judges none, and does nothing but store. -/
theorem State.forElems_judge_of_free {s : State} (hfree : ∀ e x, s.elem e = some x → x.state = .free)
    (contacts : List ThrowSet) (es : List ElemNo) :
    (s.afterStore contacts).forElems es State.judge = s.afterStore contacts := by
  have hjudge : ∀ e, (s.afterStore contacts).judge e = s.afterStore contacts := fun e => by
    refine State.judge_unjudged fun x hx => ?_
    rw [State.afterStore_elem, State.elem_elapse, Option.map_map] at hx
    obtain ⟨y, hy, rfl⟩ := Option.map_eq_some_iff.1 hx
    have hstate := hfree e y hy
    simp only [Function.comp]
    split <;> simp [Element.judged, Element.elapse, hstate]
  induction es with
  | nil => rfl
  | cons e es ih =>
    rw [State.forElems, List.foldl_cons, hjudge]
    exact ih

theorem State.endSeeding_of_room {s : State} (hroom : s.roomFor 1) : s.endSeeding = { s with
    elems := (s.forElems allElems fun e s => s.modElem e Element.seed).elems
    startUpDrive := false, nodeState := .running, lineState := .seeking
    txQueue := s.txQueue ++ [.new (.frame (.notice .started none 0))] } := by
  obtain ⟨v, hv⟩ := s.forElems_modElem_touches allElems Element.seed
  rw [State.endSeeding, hv, State.enqueue_of_room (n := 0)]
  exact hroom.of_eq rfl rfl

/-- An element as the first full loop seeds it (R72). -/
theorem Element.seed_eq (x : Element) : x.seed = { x with
    commanded := match x.sensed with | .throw k => some k | .noContact => none | .multi => none
    half := if x.cascaded = true then
        (match (match x.sensed with | .throw k => some k | .noContact => none | .multi => none : Option Throw) with
          | some k => if k.val < (x.throws + 1) / 2 then .zero else .one
          | none => .unknown)
      else x.half } := by
  unfold Element.seed Element.halfFrom
  cases x.sensed <;> rfl

/-- Settles O13: no element is judged (`State.forElems_judge_of_free`), so the seeding works on what the read stored. -/
theorem firstLoopSeedsAndRuns : Obligations.FirstLoopSeedsAndRuns := by
  intro contacts s _ hclock hn hodd hroom hfree
  have hroom' : (s.afterStore contacts).roomFor 1 := hroom.of_eq rfl rfl
  have hread : s.readGroup contacts = (s.afterStore contacts).endSeeding := by
    rw [State.readGroup_eq, State.forElems_judge_of_free hfree, if_pos ⟨hn, hodd⟩]
  have hexec := exec_senseGroupRead hclock contacts
  rw [hread, State.endSeeding_of_room hroom'] at hexec
  have htx : (s.afterStore contacts).txQueue = s.txQueue := by simp only [State.afterStore, State.elapse]
  generalize s.afterStore contacts = u at hexec htx ⊢
  have helem := u.elem_forAll Element.seed
  obtain ⟨v, hv⟩ := u.forElems_modElem_touches allElems Element.seed
  rw [htx, hv] at hexec
  rw [hv] at helem
  exact ⟨_, hexec, rfl, fun e => (helem e).trans (Option.map_congr fun x _ => x.seed_eq)⟩

end Sys2Proof.Machine
end

section
/-!
PROOFS. The exposure watch of a read (O9, O10) and what a read stores and leaves alone (O8).
-/

namespace Sys2Proof.Machine

/-! ### A drop-out (R64, R155) -/

theorem State.fillTeardown_prefix (s : State) : s.txQueue <+: s.fillTeardown.txQueue := by
  unfold State.fillTeardown
  split
  · exact List.prefix_rfl
  · exact List.prefix_append _ _

/-- A NOTICE that is queued puts no frame out of the transmit queue (R88, R89). -/
theorem State.enqueueLast_prefix (s : State) (i : TxItem) : s.txQueue <+: (s.enqueueLast i).txQueue := by
  unfold State.enqueueLast
  dsimp only
  split
  · exact s.fillTeardown_prefix.trans (List.prefix_append _ _)
  · exact s.fillTeardown_prefix

theorem State.capture_prefix (s : State) (k : FaultKind) (loc : Option ElemNo) (h : Option Handle) :
    s.txQueue <+: (s.capture k loc h).txQueue := by
  by_cases hk : s.fault.kind = none
  · rw [State.capture_of_none hk]
    exact State.enqueueLast_prefix { s with fault := ⟨some k, loc, h, 0⟩ } _
  · rw [State.capture_later k hk]

theorem State.queueBreak_of_room {s : State} {n : Nat} (hroom : s.roomFor (n + 1)) (h : Handle) (m : HopMask) :
    s.queueBreak h m = { s with
      breaksOut := if s.txQueue.any (TxEntry.isBreakOf h) = false then s.breaksOut ++ [h] else s.breaksOut
      txQueue := s.txQueue ++
        (if s.txQueue.any (TxEntry.isBreakOf h) = false then [.new (.frame (.brk h m 19))] else []) } := by
  cases hbreak : s.txQueue.any (TxEntry.isBreakOf h) with
  | true => rw [State.queueBreak, if_pos hbreak, if_neg nofun, if_neg nofun, List.append_nil]
  | false =>
    have hroom' : ({ s with breaksOut := s.breaksOut ++ [h] } : State).roomFor (n + 1) := hroom.of_eq rfl rfl
    rw [State.queueBreak, if_neg (by rw [hbreak]; nofun), if_pos rfl, if_pos rfl, State.enqueue_of_room hroom']
    rfl

section
variable {s : State} {e : ElemNo} {x : Element} {o : Owner}

/-- The state of a drop-out as it is captured. -/
def State.droppedOut (s : State) (e : ElemNo) (x : Element) (h : Handle) : State :=
  (s.setElem e x.toFault).capture .dropOut (some e) (some h)

theorem State.judge_dropOut (hx : s.elem e = some x) (hexp : x.exposed = true) (hrun : x.mismatchRun ≠ 0)
    (howner : x.owner = some o) (hno : x.commanded.map Sensed.throw ≠ some x.sensed) : s.judge e =
      if s.nodeState = .running then (s.droppedOut e x o.handle).queueBreak o.handle o.mask
      else s.droppedOut e x o.handle := by
  have hnode : (s.droppedOut e x o.handle).nodeState = s.nodeState := State.capture_nodeState ..
  rw [State.judge_exposed hx (Element.exposed_iff.1 hexp), State.judgeExposed,
    if_neg fun h => hno (Element.readMatches_iff.1 h), if_neg hrun, State.dropOut, howner, ← hnode]
  rfl

/-- The NOTICE of the capture is no BREAK. -/
theorem State.any_isBreakOf_droppedOut {n : Nat} (hroom : s.roomFor (n + 1)) (e : ElemNo) (x : Element) (h h' : Handle) :
    (s.droppedOut e x h).txQueue.any (TxEntry.isBreakOf h') = s.txQueue.any (TxEntry.isBreakOf h') := by
  have hroom' : (s.setElem e x.toFault).roomFor (n + 1) := hroom.of_eq rfl rfl
  have hnotice : TxEntry.isBreakOf h' (captureNotice .dropOut) = false := rfl
  rw [State.droppedOut, State.capture_of_room _ hroom', List.any_append]
  split <;> simp [hnotice]

end

theorem State.foldl_judge_unjudged {s : State} {l : List ElemNo}
    (h : ∀ e ∈ l, ∀ x, s.elem e = some x → x.judged = false) : l.foldl (fun u e => u.judge e) s = s := by
  induction l with
  | nil => rfl
  | cons e l ih =>
    rw [List.foldl_cons, State.judge_unjudged (h e List.mem_cons_self)]
    exact ih fun f hf => h f (List.mem_cons_of_mem _ hf)

theorem allElems_group_split_two : ∀ e f : ElemNo, e.val / 8 = f.val / 8 → e < f →
    allElems.filter (fun g => g.val / 8 == e.val / 8) =
      allElems.filter (fun g => g.val / 8 == e.val / 8 && g < e) ++
        e :: (allElems.filter (fun g => g.val / 8 == e.val / 8 && (e < g && g < f)) ++
          f :: allElems.filter (fun g => g.val / 8 == e.val / 8 && f < g)) := by
  decide

/-- A read that judges two elements of its group and no other. -/
theorem State.foldl_judge_two {s : State} {e f : ElemNo} (hgroup : e.val / 8 = f.val / 8) (hef : e < f)
    (hother : ∀ g x, s.elem g = some x → g ≠ e → g ≠ f → g.val / 8 = e.val / 8 → x.judged = false)
    (he : ∀ g, g ≠ e → (s.judge e).elem g = s.elem g)
    (hf : ∀ g, g ≠ f → ((s.judge e).judge f).elem g = (s.judge e).elem g) :
    (allElems.filter (fun g => g.val / 8 == e.val / 8)).foldl (fun u g => u.judge g) s = (s.judge e).judge f := by
  have hmem : ∀ {g : ElemNo} {p : ElemNo → Bool}, g ∈ allElems.filter (fun g => g.val / 8 == e.val / 8 && p g) →
      g.val / 8 = e.val / 8 ∧ p g = true := fun hg => by
    simpa using (List.mem_filter.1 hg).2
  rw [allElems_group_split_two e f hgroup hef, List.foldl_append, List.foldl_cons, List.foldl_append, List.foldl_cons,
    State.foldl_judge_unjudged (s := s), State.foldl_judge_unjudged (s := s.judge e), State.foldl_judge_unjudged]
  · intro g hg x hx
    obtain ⟨hsame, hlt⟩ := hmem hg
    have hlt := of_decide_eq_true hlt
    rw [hf g hlt.ne', he g (hef.trans hlt).ne'] at hx
    exact hother g x hx (hef.trans hlt).ne' hlt.ne' hsame
  · intro g hg x hx
    obtain ⟨hsame, hlt⟩ := hmem hg
    obtain ⟨hlt, hgt⟩ : e < g ∧ g < f := by simpa using hlt
    rw [he g hlt.ne'] at hx
    exact hother g x hx hlt.ne' hgt.ne hsame
  · intro g hg x hx
    obtain ⟨hsame, hlt⟩ := hmem hg
    have hlt := of_decide_eq_true hlt
    exact hother g x hx hlt.ne (hlt.trans hef).ne hsame

/-- Settles O10: `State.judge_dropOut` on the state the lower elements left; for two drop-outs, applied twice. -/
theorem dropOutQueuesBreak : Obligations.DropOutQueuesBreak := by
  refine ⟨?_, ?_⟩
  · intro contacts s u e x o _ hclock hs he hu hx hexp hrun howner hno first breaks failed
    have hexec : exec (.senseGroupRead contacts) s = .next ((u.judge e).judgeAbove e) := by
      rw [exec_senseGroupRead hclock, State.readGroup_at hs he, ← hu]
    have hjudge := State.judge_dropOut hx hexp hrun howner hno
    refine ⟨_, hexec, fun hroom => ?_, fun hb => ?_⟩
    · have hroom' : (u.setElem e x.toFault).roomFor 2 := hroom.of_eq rfl rfl
      have hcapture := State.capture_of_room (loc := some e) (h := some o.handle) .dropOut hroom'
      have hdropped : (u.droppedOut e x o.handle).roomFor 1 := hroom'.capture .dropOut
      have hany := State.any_isBreakOf_droppedOut hroom e x o.handle o.handle
      have hqueue := State.queueBreak_of_room hdropped o.handle o.mask
      have hstate : u.judge e = { failed with
          breaksOut := if breaks then u.breaksOut ++ [o.handle] else u.breaksOut
          txQueue := u.txQueue ++ (if first then [captureNotice .dropOut] else []) ++
            (if breaks then [.new (.frame (.brk o.handle o.mask 19))] else []) } := by
        by_cases hn : u.nodeState = .running
        · have hb : breaks ↔ u.txQueue.any (TxEntry.isBreakOf o.handle) = false := and_iff_right hn
          rw [hjudge, if_pos hn, hqueue, hany, if_congr hb rfl rfl, if_congr hb rfl rfl, State.droppedOut, hcapture]
          rfl
        · have hb : ¬breaks := fun h => hn h.1
          rw [hjudge, if_neg hn, if_neg hb, if_neg hb, State.droppedOut, hcapture, List.append_nil]
          rfl
      refine ⟨hstate, fun hb => ?_⟩
      rw [hstate, State.quenchDriven, State.breakDrive]
      simp [hb]
    · have hstate : u.judge e = u.droppedOut e x o.handle := by
        rw [hjudge]
        by_cases hn : u.nodeState = .running
        · have hwaits : u.txQueue.any (TxEntry.isBreakOf o.handle) = true :=
            Bool.not_eq_false _ ▸ fun h => hb ⟨hn, h⟩
          have hstill : (u.droppedOut e x o.handle).txQueue.any (TxEntry.isBreakOf o.handle) = true := by
            obtain ⟨y, hy, hbreak⟩ := List.any_eq_true.1 hwaits
            exact List.any_eq_true.2 ⟨y, ((u.setElem e x.toFault).capture_prefix _ _ _).subset hy, hbreak⟩
          rw [if_pos hn, State.queueBreak, if_pos hstill]
        · rw [if_neg hn]
      rw [hstate]
      exact ⟨State.capture_eq _ _ _ _, fun hlater => State.capture_later _ hlater⟩
  · intro contacts s u e f x y o p _ hclock hn hef he hf hu hother hx hxexp hxrun hxowner hxno hy hyexp hyrun hyowner hyno
      hfault hroom hbreak hbreak' failed
    obtain ⟨hnode, hflt, htx, hrst, hout⟩ : u.nodeState = s.nodeState ∧ u.fault = s.fault ∧ u.txQueue = s.txQueue ∧
        u.restart = s.restart ∧ u.breaksOut = s.breaksOut := by
      subst hu
      simp only [State.afterStore, State.elapse, and_self]
    rw [← hnode] at hn
    rw [← hflt] at hfault
    rw [← htx] at hbreak hbreak'
    have huroom : (u.setElem e x.toFault).roomFor 3 := hroom.of_eq htx hrst
    have hdropped : (u.droppedOut e x o.handle).roomFor 2 := huroom.capture .dropOut
    have hv : u.judge e = { u with
        elems := u.elems.set e (some (failed x))
        fault := ⟨some .dropOut, some e, some o.handle, 0⟩
        breaksOut := u.breaksOut ++ [o.handle]
        txQueue := u.txQueue ++ [captureNotice .dropOut, .new (.frame (.brk o.handle o.mask 19))] } := by
      rw [State.judge_dropOut hx hxexp hxrun hxowner hxno, if_pos hn, State.queueBreak_of_room hdropped,
        State.any_isBreakOf_droppedOut (n := 2) (hroom.of_eq htx hrst), hbreak, if_pos rfl, if_pos rfl, State.droppedOut,
        State.capture_of_room .dropOut huroom, if_pos (show (u.setElem e x.toFault).fault.kind = none from hfault),
        List.append_assoc, FaultRecord.after, if_pos (show (u.setElem e x.toFault).fault.kind = none from hfault)]
      rfl
    have helem : ∀ g, g ≠ e → (u.judge e).elem g = u.elem g := fun g hg => by
      rw [hv]
      exact u.elem_setElem_ne (failed x) hg
    have hvroom : (u.judge e).roomFor 1 := by
      rw [hv]
      refine ⟨huroom.noneWaits, ?_⟩
      have hlen : u.txQueue.length + 3 ≤ Config.txCapacity := huroom.room
      rw [List.length_append, List.length_cons, List.length_singleton]
      exact hlen
    have hw : (u.judge e).judge f = { u with
        elems := (u.elems.set e (some (failed x))).set f (some (failed y))
        fault := ⟨some .dropOut, some e, some o.handle, 1⟩
        breaksOut := u.breaksOut ++ [o.handle] ++ if o.handle = p.handle then [] else [p.handle]
        txQueue := u.txQueue ++ [captureNotice .dropOut, .new (.frame (.brk o.handle o.mask 19))] ++
          if o.handle = p.handle then [] else [.new (.frame (.brk p.handle p.mask 19))] } := by
      have hany : (u.judge e).txQueue.any (TxEntry.isBreakOf p.handle) = decide (o.handle = p.handle) := by
        rw [hv, List.any_append, hbreak']
        simp [TxEntry.isBreakOf, captureNotice, TxEntry.new, beq_eq_decide]
      have hlater : (u.judge e).droppedOut f y p.handle = { (u.judge e).setElem f y.toFault with
          fault := ⟨some .dropOut, some e, some o.handle, 1⟩ } := by
        rw [State.droppedOut, State.capture_later, hv]
        · rfl
        · rw [hv]; nofun
      have hwroom : ((u.judge e).droppedOut f y p.handle).roomFor 1 := by
        rw [hlater]
        exact hvroom.of_eq rfl rfl
      rw [State.judge_dropOut ((helem f hef.ne').trans hy) hyexp hyrun hyowner hyno,
        if_pos (show (u.judge e).nodeState = .running from by rw [hv]; exact hn), State.queueBreak_of_room hwroom, hlater]
      simp only [State.setElem, hany]
      rw [hv]
      by_cases hhandle : o.handle = p.handle
      · simp [hhandle]
        rfl
      · simp [hhandle]
        rfl
    have helem' : ∀ g, g ≠ f → ((u.judge e).judge f).elem g = (u.judge e).elem g := fun g hg => by
      rw [hw, hv]
      exact State.elem_setElem_ne { u with elems := u.elems.set e (some (failed x)) } (failed y) hg
    have hnotend : ¬(s.nodeState = .seeding ∧ s.scanReads % 2 = 1) := fun h => by
      rw [← hnode, hn] at h
      nomatch h.1
    rw [exec_senseGroupRead hclock, State.readGroup_of_not_end hnotend, ← he, ← hu,
      State.foldl_judge_two (he.trans hf.symm) hef hother helem helem', hw, hout, htx]
    rfl

/-! ### What the judgement of one element does -/

/-- A drop-out changes the transmit side, the fault record and the break drive only, but for its element. -/
theorem State.dropOut_touches (s : State) (e : ElemNo) (x : Element) : TxTouched (s.setElem e x.toFault) (s.dropOut e x) := by
  have hcapture := ((s.setElem e x.toFault).capture_txKept .dropOut (some e) (x.owner.map (·.handle))).touched
  have hbreak : ∀ (u : State) h m, TxTouched u (u.queueBreak h m) := fun u h m => by
    unfold State.queueBreak
    split
    · exact .refl u
    · have hout : TxTouched u { u with breaksOut := u.breaksOut ++ [h] } :=
        ⟨u.txQueue, u.txDrops, u.reportSlot, u.fault, u.breaksOut ++ [h], u.restart, rfl⟩
      exact hout.trans (State.enqueue_touches _ _)
  unfold State.dropOut
  dsimp only
  split
  · split
    · exact hcapture.trans (hbreak _ _ _)
    · exact hcapture
  · exact hcapture

/-- The record of an exposed element after a read of its group (R63, R64). -/
def Element.watched (x : Element) : Element :=
  if x.commanded.map Sensed.throw = some x.sensed then { x with mismatchRun := 0 }
  else if x.mismatchRun = 0 then { x with mismatchRun := 1 }
  else x.toFault

theorem Element.watched_sensed (x : Element) : x.watched.sensed = x.sensed := by
  unfold Element.watched
  split_ifs <;> rfl

section
variable {s : State} {e : ElemNo} {x : Element} (hx : s.elem e = some x)
include hx

theorem State.judge_exposed_touches (hexp : x.exposed = true) : TxTouched (s.setElem e x.watched) (s.judge e) := by
  rw [State.judge_exposed hx (Element.exposed_iff.1 hexp), State.judgeExposed, Element.watched]
  by_cases hmatch : x.commanded.map Sensed.throw = some x.sensed
  · rw [if_pos hmatch, if_pos (Element.readMatches_iff.2 hmatch)]
    exact .refl _
  · rw [if_neg hmatch, if_neg fun h => hmatch (Element.readMatches_iff.1 h)]
    by_cases hrun : x.mismatchRun = 0
    · rw [if_pos hrun, if_pos hrun]
      exact .refl _
    · rw [if_neg hrun, if_neg hrun]
      exact s.dropOut_touches e x

/-- The judgement of a judged element rewrites its record, with the sensed throw kept, and then queues frames or a
move. -/
theorem State.judge_cases (hjudged : x.judged = true) : ∃ y, y.sensed = x.sensed ∧
    (TxTouched (s.setElem e y) (s.judge e) ∨ ∃ k l, s.judge e = (s.setElem e y).queueMove e k l) := by
  have hcapture : ∀ (u : State) h, TxTouched u (u.capture .stuck (some e) h) := fun u h => (u.capture_txKept _ _ _).touched
  by_cases hexp : x.exposed = true
  · exact ⟨x.watched, x.watched_sensed, .inl (State.judge_exposed_touches hx hexp)⟩
  by_cases hverify : x.state = .verifying
  · rw [State.judge_verifying hx hverify, State.judgeVerify]
    split
    · refine ⟨x.toSet, rfl, .inl ?_⟩
      dsimp only
      split
      · unfold State.reportSet
        split
        · split
          · exact State.enqueue_touches _ _
          · split
            · exact State.enqueue_touches _ _
            · exact .refl _
        · exact .refl _
      · exact .refl _
    · split
      · refine ⟨x.toStuck, rfl, .inl ?_⟩
        dsimp only
        split
        · split
          · exact (hcapture _ _).trans (State.enqueue_touches _ _)
          · exact hcapture _ _
        · exact hcapture _ _
      · refine ⟨{ x with state := .waiting, retry := true, half := x.halfUnknown }, rfl, ?_⟩
        dsimp only
        split
        · exact .inr ⟨_, _, rfl⟩
        · exact .inl (.refl _)
  · obtain ⟨hstate, hdue⟩ : x.state = .returning ∧ x.verifyDue = true := by
      cases h : x.state <;> simp_all [Element.judged, Element.exposed]
    rw [State.judge_returning hx hstate hdue, State.judgeReturn]
    split
    · exact ⟨x.toFree, rfl, .inl (.refl _)⟩
    · split
      · exact ⟨x.toStuck, rfl, .inl (hcapture _ _)⟩
      · refine ⟨{ x with retry := true, half := x.halfUnknown, verifyDue := false }, rfl, ?_⟩
        dsimp only
        split
        · exact .inr ⟨_, _, rfl⟩
        · exact .inl (.refl _)

end

theorem TxTouched.elem {s t : State} (h : TxTouched s t) (e : ElemNo) : t.elem e = s.elem e := State.elem_congr h.elems e

theorem TxTouched.entriesOf {s t : State} (h : TxTouched s t) (e : ElemNo) : t.entriesOf e = s.entriesOf e := by
  rw [State.entriesOf, h.moveQueue]
  rfl

theorem TxTouched.grantable {s t : State} (h : TxTouched s t) : t.grantable ↔ s.grantable := by
  obtain ⟨_, _, _, _, _, _, rfl⟩ := h
  rfl

/-- A start keeps the sensed throw. -/
theorem State.Spares.sensed {s t : State} {e : ElemNo} (h : State.Spares e s t) :
    (t.elem e).map Element.sensed = (s.elem e).map Element.sensed := by
  cases h with
  | same elem => rw [elem]
  | started m x v _ before _ _ elem =>
    rw [elem, before]
    exact congrArg some (x.startMove_sensed ..)

theorem State.judge_sensed (s : State) (e f : ElemNo) :
    ((s.judge e).elem f).map Element.sensed = (s.elem f).map Element.sensed := by
  by_cases hf : f = e
  swap
  · exact ((s.judge_worksAt e).spares f hf).sensed
  subst hf
  cases hx : s.elem f with
  | none => rw [State.judge_unjudged fun x h => (nomatch hx.symm.trans h), hx]
  | some x =>
    by_cases hjudged : x.judged = true
    · obtain ⟨y, hy, htouch | ⟨k, l, heq⟩⟩ := State.judge_cases hx hjudged
      · rw [htouch.elem, State.elem_setElem_self]
        exact congrArg some hy
      · rw [heq, ((State.queueMove_starts (s.elem_setElem_self f y) k l).spares f).sensed]
        exact (congrArg _ (s.elem_setElem_self f y)).trans (congrArg some hy)
    · rw [State.judge_unjudged fun y h => by cases hx.symm.trans h; simpa using hjudged, hx]

theorem State.judge_scan (s : State) (e : ElemNo) :
    (s.judge e).scanReads = s.scanReads ∧ (s.judge e).scanClock = s.scanClock := by
  cases hx : s.elem e with
  | none => rw [State.judge_unjudged fun x h => (nomatch hx.symm.trans h)]; exact ⟨rfl, rfl⟩
  | some x =>
    by_cases hjudged : x.judged = true
    · obtain ⟨y, hy, htouch | ⟨k, l, heq⟩⟩ := State.judge_cases hx hjudged
      · exact ⟨htouch.scanReads, htouch.scanClock⟩
      · obtain ⟨_, _, _, _, _, harb⟩ := (s.setElem e y).queueMove_touches e k l
        rw [heq, harb]
        exact ⟨rfl, rfl⟩
    · rw [State.judge_unjudged fun y h => by cases hx.symm.trans h; simpa using hjudged]
      exact ⟨rfl, rfl⟩

/-- Where nothing can be granted, the judgement of an element without a pending move starts no other's. -/
theorem State.judge_alone {s : State} {e : ElemNo} (hs : ¬s.grantable)
    (hentry : ∀ x, s.elem e = some x → x.judged = true → s.hasEntry e = false) : ¬(s.judge e).grantable ∧
      ∀ f, f ≠ e → (s.judge e).elem f = s.elem f ∧ (s.judge e).entriesOf f = s.entriesOf f := by
  by_cases hjudged : ∃ x, s.elem e = some x ∧ x.judged = true
  · obtain ⟨x, hx, hjudged⟩ := hjudged
    obtain ⟨y, -, htouch | ⟨k, l, heq⟩⟩ := State.judge_cases hx hjudged
    · exact ⟨fun h => hs (htouch.grantable.1 h), fun f hf => ⟨(htouch.elem f).trans (s.elem_setElem_ne y hf), htouch.entriesOf f⟩⟩
    · obtain ⟨ms, vs, halone, hgrant, -⟩ := State.queueMove_alone (s := s.setElem e y) (s.elem_setElem_self e y) k l hs
        (hentry x hx hjudged)
      rw [heq]
      exact ⟨hgrant, fun f hf => ⟨(halone.elems f hf).trans (s.elem_setElem_ne y hf), (halone.sameAt hf).entries⟩⟩
  · rw [State.judge_unjudged fun x hx => by simpa using fun h => hjudged ⟨x, hx, h⟩]
    exact ⟨hs, fun f _ => ⟨rfl, rfl⟩⟩

/-! ### The elements that a read leaves alone -/

theorem State.Place.no_entry {s : State} {p : Prop} {e : ElemNo} {x : Element} (h : s.Place p e) (hx : s.elem e = some x)
    (hpend : ¬x.mayPend) : s.entriesOf e = [] := by
  cases h with
  | idle bare => exact bare.entries
  | pending m y _ _ _ elem mayPend => exact absurd (Option.some.inj (hx.symm.trans elem) ▸ mayPend) hpend
  | serving v y entries => exact entries

/-- A read stores a sensed throw and lets time pass; nothing that the arbiter looks at changes. -/
theorem State.afterStore_elem_some {s : State} {contacts : List ThrowSet} {e : ElemNo} {x : Element}
    (hx : (s.afterStore contacts).elem e = some x) :
    ∃ y, s.elem e = some y ∧ x.state = y.state ∧ x.verifyDue = y.verifyDue := by
  rw [State.afterStore_elem, State.elem_elapse, Option.map_map] at hx
  obtain ⟨y, hy, rfl⟩ := Option.map_eq_some_iff.1 hx
  refine ⟨y, hy, ?_⟩
  simp only [Function.comp]
  split <;> exact ⟨rfl, rfl⟩

theorem State.arbiterSafe.afterStore_no_entry {s : State} (hs : s.arbiterSafe) {contacts : List ThrowSet} {e : ElemNo}
    {x : Element} (hx : (s.afterStore contacts).elem e = some x) (hpend : ¬x.mayPend) :
    (s.afterStore contacts).entriesOf e = [] := by
  obtain ⟨y, hy, hstate, hdue⟩ := State.afterStore_elem_some hx
  exact (hs.place e).no_entry hy (by rwa [Element.mayPend, ← hstate, ← hdue])

theorem State.afterStore_grantable (s : State) (contacts : List ThrowSet) :
    (s.afterStore contacts).grantable ↔ s.grantable := by
  have helapse : (s.elapse s.untilRead).grantable ↔ s.grantable :=
    ArbFrame.grantable_iff ⟨rfl, rfl, rfl, rfl, rfl⟩ rfl fun c => by rw [State.channel_elapse, Channel.elapse_eq_idle]
  rw [← helapse, State.afterStore]
  exact ArbFrame.grantable_iff ⟨rfl, rfl, rfl, rfl, rfl⟩ rfl fun _ => Iff.rfl

theorem State.Spares.of_no_entry {s t : State} {e : ElemNo} (h : State.Spares e s t) (hentries : s.entriesOf e = []) :
    t.elem e = s.elem e ∧ t.entriesOf e = [] := by
  cases h with
  | same elem _ entries => exact ⟨elem, entries.trans hentries⟩
  | started m _ _ mem => rw [hentries] at mem; cases mem

/-- An element without a pending move that is not judged stays. -/
theorem State.foldl_judge_elem {e : ElemNo} {x : Element} : ∀ {l : List ElemNo} {s : State},
    (e ∈ l → x.judged = false) → s.elem e = some x → s.entriesOf e = [] →
    (l.foldl (fun u f => u.judge f) s).elem e = some x ∧ (l.foldl (fun u f => u.judge f) s).entriesOf e = []
  | [], _, _, hx, hentries => ⟨hx, hentries⟩
  | f :: l, s, hl, hx, hentries => by
    rw [List.foldl_cons]
    obtain ⟨helem, hnone⟩ : (s.judge f).elem e = s.elem e ∧ (s.judge f).entriesOf e = [] := by
      by_cases hf : e = f
      · subst hf
        rw [State.judge_unjudged fun y hy => by cases hx.symm.trans hy; exact hl List.mem_cons_self]
        exact ⟨rfl, hentries⟩
      · exact ((s.judge_worksAt f).spares e hf).of_no_entry hentries
    exact State.foldl_judge_elem (fun he => hl (List.mem_cons_of_mem _ he)) (helem.trans hx) hnone

/-- Where nothing can be granted, every element that is not judged stays. -/
theorem State.foldl_judge_alone {e : ElemNo} {x : Element} : ∀ {l : List ElemNo} {s : State}, l.Nodup → ¬s.grantable →
    (∀ f ∈ l, ∀ y, s.elem f = some y → y.judged = true → s.entriesOf f = []) →
    (e ∈ l → x.judged = false) → s.elem e = some x → (l.foldl (fun u f => u.judge f) s).elem e = some x
  | [], _, _, _, _, _, hx => hx
  | f :: l, s, hnodup, hs, hentries, hl, hx => by
    rw [List.foldl_cons]
    obtain ⟨hnot, hnodup⟩ := List.nodup_cons.1 hnodup
    obtain ⟨hs', hothers⟩ := State.judge_alone hs fun y hy hj => State.entriesOf_eq_nil.1 (hentries f List.mem_cons_self y hy hj)
    refine State.foldl_judge_alone hnodup hs' (fun g hg y hy hj => ?_) (fun he => hl (List.mem_cons_of_mem _ he)) ?_
    · have hne : g ≠ f := fun h => hnot (h ▸ hg)
      rw [(hothers g hne).1] at hy
      rw [(hothers g hne).2]
      exact hentries g (List.mem_cons_of_mem _ hg) y hy hj
    · by_cases hf : e = f
      · subst hf
        rwa [State.judge_unjudged fun y hy => by cases hx.symm.trans hy; exact hl List.mem_cons_self]
      · exact (hothers e hf).1.trans hx

theorem Element.not_mayPend_of_judged {x : Element} (h : x.judged = true) : ¬x.mayPend := by
  rintro (hs | ⟨hs, hdue⟩)
  · rw [Element.judged, hs] at h
    cases h
  · rw [Element.judged, hs] at h
    cases h.symm.trans hdue

/-! ### The exposure watch (R63, R64) -/

/-- Settles O9: an exposed element has no pending move, so the judgements of the others leave it alone. -/
theorem readWatchesExposedElement : Obligations.ReadWatchesExposedElement := by
  intro contacts s _ hclock hs harb
  refine ⟨_, exec_senseGroupRead hclock contacts, fun e x hx hexp hgroup => ?_⟩
  have hjudged : x.judged = true := by
    rcases Element.exposed_iff.1 hexp with h | h <;> rw [Element.judged, h]
  have hnot : ∀ p : ElemNo → Bool, p e = false →
      e ∈ allElems.filter (fun f => f.val / 8 == e.val / 8 && p f) → x.watched.judged = false ∧ x.judged = false := by
    intro p hp hmem
    have := (List.mem_filter.1 hmem).2
    rw [hp, Bool.and_false] at this
    cases this
  obtain ⟨helem, hentries⟩ : (s.judgedBelow contacts e).elem e = some x ∧ (s.judgedBelow contacts e).entriesOf e = [] :=
    State.foldl_judge_elem (fun h => (hnot (· < e) (by simp) h).2) hx (harb.afterStore_no_entry hx (Element.not_mayPend_of_judged hjudged))
  have htouch := State.judge_exposed_touches helem hexp
  rw [State.readGroup_at hs hgroup]
  exact (State.foldl_judge_elem (fun h => (hnot (e < ·) (by simp) h).1)
    ((htouch.elem e).trans (State.elem_setElem_self ..)) ((htouch.entriesOf e).trans hentries)).1

/-! ### What a read stores (R57) -/

theorem mem_closedThrows {n : Nat} (hn : n ≤ 12) (c : ThrowSet) (t : Throw) :
    t ∈ closedThrows n c ↔ t.val < n ∧ inSet c t = true := by
  have hmem : ∀ t : Throw, t.val < 12 → t ∈ setThrows := by decide
  rw [closedThrows, List.mem_filter, Bool.and_eq_true, decide_eq_true_iff]
  exact and_iff_right_of_imp fun h => hmem t (by omega)

theorem closedThrows_nodup (n : Nat) (c : ThrowSet) : (closedThrows n c).Nodup :=
  List.Nodup.filter _ (by decide)

theorem nodup_eq_singleton_iff {α : Type} {l : List α} (h : l.Nodup) (a : α) : l = [a] ↔ a ∈ l ∧ ∀ b ∈ l, b = a := by
  refine ⟨fun hl => by simp [hl], fun ⟨ha, hall⟩ => ?_⟩
  rw [List.eq_replicate_iff.2 ⟨rfl, hall⟩] at h ha ⊢
  rw [List.nodup_replicate] at h
  obtain ⟨hlen, -⟩ := List.mem_replicate.1 ha
  rw [show l.length = 1 by omega]
  rfl

/-- Settles O8: an element without a pending move is left alone by every other judgement, and with nothing grantable so
is one with a pending move. -/
theorem readStoresSensedThrow : Obligations.ReadStoresSensedThrow := by
  refine ⟨fun n c k hn => ?_, fun contacts s _ hclock hend harb => ?_⟩
  · have hmem := mem_closedThrows hn c
    have hnodup := closedThrows_nodup n c
    refine ⟨?_, ?_, ?_⟩
    · have hone : sensedOf n c = .throw k ↔ closedThrows n c = [k] := by
        unfold sensedOf
        split <;> simp_all
      rw [hone, nodup_eq_singleton_iff hnodup]
      simp only [hmem, and_imp, and_assoc]
    · have hnone : sensedOf n c = .noContact ↔ closedThrows n c = [] := by
        unfold sensedOf
        split <;> simp_all
      rw [hnone, List.eq_nil_iff_forall_not_mem]
      simp only [hmem, not_and, Bool.not_eq_true]
    · have htwo : sensedOf n c = .multi ↔ ∃ i ∈ closedThrows n c, ∃ j ∈ closedThrows n c, i ≠ j := by
        rw [sensedOf]
        generalize closedThrows n c = l at hnodup
        match l, hnodup with
        | [], _ => simp
        | [t], _ => simp
        | t :: t' :: l, hnodup =>
          have hne : t ≠ t' := fun h => (List.nodup_cons.1 hnodup).1 (h ▸ List.mem_cons_self)
          exact iff_of_true rfl ⟨t, List.mem_cons_self, t', List.mem_cons_of_mem _ List.mem_cons_self, hne⟩
      rw [htwo]
      simp only [hmem]
      exact ⟨fun ⟨i, ⟨hi, hic⟩, j, ⟨hj, hjc⟩, hne⟩ => ⟨i, j, hne, hi, hj, hic, hjc⟩,
        fun ⟨i, j, hne, hi, hj, hic, hjc⟩ => ⟨i, ⟨hi, hic⟩, j, ⟨hj, hjc⟩, hne⟩⟩
  · have hkeep : ∀ (l : List ElemNo) (u : State), (l.foldl (fun u e => u.judge e) u).scanReads = u.scanReads ∧
        (l.foldl (fun u e => u.judge e) u).scanClock = u.scanClock ∧
        ∀ e, ((l.foldl (fun u e => u.judge e) u).elem e).map Element.sensed = (u.elem e).map Element.sensed := by
      intro l
      induction l with
      | nil => exact fun _ => ⟨rfl, rfl, fun _ => rfl⟩
      | cons f l ih =>
        intro u
        obtain ⟨hreads, hclock, hsensed⟩ := ih (u.judge f)
        exact ⟨hreads.trans (u.judge_scan f).1, hclock.trans (u.judge_scan f).2, fun e => (hsensed e).trans (u.judge_sensed f e)⟩
    obtain ⟨hreads, hscan, hsensed⟩ := hkeep (allElems.filter (fun e => e.val / 8 == s.scanReads % 2)) (s.afterStore contacts)
    refine ⟨_, (exec_senseGroupRead hclock contacts).trans (congrArg _ (State.readGroup_of_not_end hend contacts)), rfl,
      fun u e h => State.judge_unjudged h, hreads, hscan, fun now hnow hle => ?_, fun hfree => ?_, fun e x hx => ⟨?_, ?_⟩⟩
    · rw [hscan]
      have htime : (s.elapse s.untilRead).scanClock = s.scanClock.map (· + s.untilRead) := rfl
      rw [State.afterStore, htime, State.untilRead, hnow]
      exact congrArg some (Nat.add_sub_cancel' hle)
    · exact State.forElems_judge_of_free hfree contacts _
    · have := hsensed e
      rw [hx, Option.map_some] at this
      exact Option.map_eq_some_iff.1 this
    · intro hun hquiet
      have hjudged : e ∈ allElems.filter (fun e => e.val / 8 == s.scanReads % 2) → x.judged = false := fun hmem => by
        have hgroup : e.val / 8 = s.scanReads % 2 := by simpa using (List.mem_filter.1 hmem).2
        rcases hun with h | h | h | h | h | h | ⟨h, hdue⟩
        · exact absurd hgroup h
        all_goals rw [Element.judged, h]
        exact hdue
      rcases hquiet with ⟨hw, hr⟩ | hgrant
      · have hpend : ¬x.mayPend := fun h => h.elim hw fun h => hr h.1
        exact (State.foldl_judge_elem hjudged hx (harb.afterStore_no_entry hx hpend)).1
      · exact State.foldl_judge_alone (allElems_nodup.filter _) (fun h => hgrant ((s.afterStore_grantable contacts).1 h))
          (fun f _ y hy hj => harb.afterStore_no_entry hy (Element.not_mayPend_of_judged hj)) hjudged hx

end Sys2Proof.Machine
end

section
/-!
PROOFS. The end of a warm restart, element by element (O51).
-/

namespace Sys2Proof.Machine

/-! ### The records (R161, R162) -/

/-- The record that the release step gives an element (R161). -/
def Element.taken (x : Element) : Element :=
  if x.state = .claimed then x.toFree
  else if x.state = .waiting ∨ x.state = .verifying ∨ x.exposed = true ∨ x.state = .fault ∧ x.owner ≠ none then
    if x.faultLatch = true then x.disown.toLatched
    else if x.releaseTarget ≠ none then
      { x.disown.toFree with state := .returning, target := x.releaseTarget }
    else x.disown.toFree
  else x

theorem Element.taken_same (x : Element) :
    x.taken.cls = x.cls ∧ x.taken.hold = x.hold ∧ x.taken.wear = x.wear := by
  unfold Element.taken
  split_ifs <;> exact ⟨rfl, rfl, rfl⟩

theorem Element.dropHold_eq (cfg : ImageConfig) (x : Element) : x.dropHold cfg =
    if x.cls = .failsafe ∧ x.hold ≠ none ∧ x.state ≠ .returning then
      { x with
        hold := none, commanded := some 0, mismatchRun := 0, wear := min (x.wear + 1) 16777215
        wearWarning := warningOf cfg .failsafe (min (x.wear + 1) 16777215) }
    else x := by
  have hiff : (x.cls = .failsafe ∧ x.state ≠ .returning ∧ x.hold.isSome = true) ↔
      (x.cls = .failsafe ∧ x.hold ≠ none ∧ x.state ≠ .returning) := by
    rw [Option.isSome_iff_ne_none]
    tauto
  rw [Element.dropHold, if_congr hiff rfl rfl]
  refine ite_congr rfl (fun h => ?_) fun _ => rfl
  rw [Element.addWear, h.1]
  rfl

/-- The record that the end of a restart leaves an element, before its move starts (R161, R162). -/
theorem Element.taken_dropHold (cfg : ImageConfig) (x : Element) : x.taken.dropHold cfg =
    if x.cls = .failsafe ∧ x.hold ≠ none ∧ x.taken.state ≠ .returning then
      { x.taken with
        hold := none, commanded := some 0, mismatchRun := 0, wear := min (x.wear + 1) 16777215
        wearWarning := warningOf cfg .failsafe (min (x.wear + 1) 16777215) }
    else x.taken := by
  obtain ⟨hcls, hhold, hwear⟩ := x.taken_same
  rw [Element.dropHold_eq]
  generalize x.taken = y at *
  rw [← hcls, ← hhold, ← hwear]

theorem Element.dropHold_target (cfg : ImageConfig) (x : Element) : (x.dropHold cfg).target = x.target := by
  rw [x.dropHold_eq]
  split <;> rfl

/-! ### An element over the release step -/

theorem ArbSame.sameAt {s t : State} (h : ArbSame s t) (e : ElemNo) : SameAt e s t :=
  ⟨State.elem_congr h.elems e, by rw [State.control, h.controls]; rfl, by rw [State.entriesOf, h.moveQueue]; rfl,
    by rw [State.servicesOf, h.services]; rfl⟩

/-- No move starts in a node that is not RUNNING (R46). -/
theorem State.Spares.sameAt {s t : State} {e : ElemNo} (h : State.Spares e s t) (hn : s.nodeState ≠ .running) :
    SameAt e s t := by
  cases h with
  | same elem control entries services => exact ⟨elem, control, entries, services⟩
  | started m x v mem before running => exact absurd running hn

/-- Element `e`, of record `x` in `s`, has record `y` in `w` and the moves that the release step leaves it: those it
had, or one in lane 7 to its target. -/
structure SettledAs (e : ElemNo) (x y : Element) (s w : State) : Prop where
  elem     : w.elem e = some y
  control  : w.control e = s.control e
  services : w.servicesOf e = []
  rests    : y.state ≠ .returning → w.entriesOf e = []
  returns  : y.state = .returning → y.verifyDue = false → w.entriesOf e ≠ []
  moves    : ∀ m ∈ w.entriesOf e, m ∈ s.entriesOf e ∧ x.state = .returning ∨ m.lane = 7 ∧ some m.target = y.target

section
variable {e : ElemNo} {x y : Element} {s t w : State}

theorem SettledAs.same (h : SettledAs e x y s w) (k : SameAt e w t) : SettledAs e x y s t :=
  ⟨k.elem.trans h.elem, k.control.trans h.control, k.services.trans h.services, fun hy => k.entries.trans (h.rests hy),
    fun hy hdue => k.entries ▸ h.returns hy hdue, fun m hm => h.moves m (k.entries ▸ hm)⟩

theorem SettledAs.of_same (h : SettledAs e x y t w) (k : SameAt e s t) : SettledAs e x y s w :=
  ⟨h.elem, h.control.trans k.control, h.services, h.rests, h.returns, fun m hm => by rw [← k.entries]; exact h.moves m hm⟩

theorem SettledAs.dropHold (h : SettledAs e x y s w) (cfg : ImageConfig) :
    SettledAs e x (y.dropHold cfg) s (w.modElem e (Element.dropHold cfg)) := by
  obtain ⟨hstate, hdue, -⟩ := y.dropHold_same cfg
  obtain ⟨v, hv⟩ := w.modElem_touches e (Element.dropHold cfg)
  have helem : (w.modElem e (Element.dropHold cfg)).elem e = some (y.dropHold cfg) := by
    rw [State.elem_modElem, if_pos rfl, h.elem]
    rfl
  rw [hv] at helem ⊢
  exact ⟨helem, h.control, h.services, fun hy => h.rests (hstate ▸ hy), fun hy hd => h.returns (hstate ▸ hy) (hdue ▸ hd),
    fun m hm => by rw [y.dropHold_target]; exact h.moves m hm⟩

/-- An element without a move is rewritten, not RETURNING. -/
theorem SettledAs.setElem (hentries : s.entriesOf e = []) (hserve : s.servicesOf e = []) (hy : y.state ≠ .returning) :
    SettledAs e x y s (s.setElem e y) :=
  ⟨s.elem_setElem_self e y, rfl, hserve, fun _ => hentries, fun h => absurd h hy,
    fun m hm => by rw [show (s.setElem e y).entriesOf e = [] from hentries] at hm; cases hm⟩

/-- An element without a move has its return queued in lane 7. -/
theorem SettledAs.queueMove (hn : t.nodeState ≠ .running) (hentries : t.entriesOf e = []) (hserve : t.servicesOf e = [])
    (hcontrol : t.control e = s.control e) (hy : t.elem e = some y) (hstate : y.state = .returning) {k : Throw}
    (hk : y.target = some k) : SettledAs e x y s (t.queueMove e k 7) := by
  have hqueue : (t.pushMove ⟨e, k, 7, needsChannel y.cls k⟩).entriesOf e = [⟨e, k, 7, needsChannel y.cls k⟩] := by
    rw [State.pushMove_entriesOf, hentries, if_pos rfl]
    rfl
  have heq : t.queueMove e k 7 = t.pushMove ⟨e, k, 7, needsChannel y.cls k⟩ := State.queueMove_of_not_running hy hn k 7
  rw [heq]
  refine ⟨hy, hcontrol, hserve, fun h => absurd hstate h, fun _ _ => by rw [hqueue]; nofun, fun m hm => ?_⟩
  rw [hqueue, List.mem_singleton] at hm
  rw [hm]
  exact .inr ⟨rfl, hk.symm⟩

/-- Release processing of an element without a move, in a node that is not RUNNING (R16). -/
theorem State.release_settledAs (hn : s.nodeState ≠ .running) (hentries : s.entriesOf e = []) (hserve : s.servicesOf e = [])
    (hx : s.elem e = some x) (hstate : x.state = .waiting ∨ x.state = .verifying ∨ x.exposed = true ∨
      x.state = .fault ∧ x.owner ≠ none) : SettledAs e x x.taken s (s.release e) := by
  have hclaimed : x.state ≠ .claimed := by
    rintro h
    rcases hstate with hs | hs | hs | ⟨hs, -⟩
    · cases h.symm.trans hs
    · cases h.symm.trans hs
    · rcases Element.exposed_iff.1 hs with hs | hs <;> cases h.symm.trans hs
    · cases h.symm.trans hs
  rw [State.release_of_elem hx, Element.taken, if_neg hclaimed, if_pos hstate, State.releaseFromStep2]
  by_cases hlatch : x.faultLatch = true
  · rw [if_pos hlatch, if_pos (show x.disown.faultLatch = true from hlatch)]
    exact .setElem hentries hserve nofun
  · rw [if_neg hlatch, if_neg (show ¬x.disown.faultLatch = true from hlatch), show x.disown.releaseTarget = x.releaseTarget from rfl]
    cases htarget : x.releaseTarget with
    | none => exact .setElem hentries hserve nofun
    | some k =>
      rw [if_pos (show some k ≠ none from nofun)]
      exact SettledAs.queueMove (s := s) (t := s.setElem e (x.disown.toReturning k)) hn hentries hserve rfl
        (s.elem_setElem_self e _) rfl rfl

theorem Element.taken_of_left (h : x.state = .free ∨ x.state = .moving ∨ x.state = .fault ∧ x.owner = none ∨
    x.state = .returning) : x.taken = x := by
  unfold Element.taken
  rw [if_neg, if_neg]
  · rintro (hs | hs | hs | ⟨hs, ho⟩)
    · rcases h with h | h | ⟨h, -⟩ | h <;> cases h.symm.trans hs
    · rcases h with h | h | ⟨h, -⟩ | h <;> cases h.symm.trans hs
    · rcases Element.exposed_iff.1 hs with hs | hs <;> rcases h with h | h | ⟨h, -⟩ | h <;> cases h.symm.trans hs
    · rcases h with h | h | ⟨-, h⟩ | h
      · cases h.symm.trans hs
      · cases h.symm.trans hs
      · exact ho h
      · cases h.symm.trans hs
  · intro hs
    rcases h with h | h | ⟨h, -⟩ | h <;> cases h.symm.trans hs

/-- An element that the release step leaves as it is. -/
theorem SettledAs.left (hx : s.elem e = some x) (hserve : s.servicesOf e = []) (htaken : x.taken = x)
    (hrests : x.state ≠ .returning → s.entriesOf e = [])
    (hreturns : x.state = .returning → x.verifyDue = false → s.entriesOf e ≠ []) : SettledAs e x x.taken s s := by
  rw [htaken]
  refine ⟨hx, rfl, hserve, hrests, hreturns, fun m hm => ?_⟩
  by_cases hr : x.state = .returning
  · exact .inl ⟨hm, hr⟩
  · rw [hrests hr] at hm
    cases hm

/-- What the release step leaves of an element (R161). -/
theorem State.restartElem_settledAs (hs : s.lawAt e) (hn : s.nodeState ≠ .running) (hserve : s.servicesOf e = [])
    (hx : s.elem e = some x) : SettledAs e x x.taken s (s.restartElem e) := by
  have hquiet : ¬x.mayPend → s.entriesOf e = [] := fun h => hs.place.no_entry hx h
  rcases State.restartElem_cases hx with ⟨h, heq⟩ | ⟨h, heq⟩ | ⟨h, heq⟩ | ⟨h, heq⟩ | ⟨h, hdue, hentry, -, k, hk, heq⟩ <;>
    rw [heq]
  · rw [Element.taken, if_pos h]
    exact .setElem (hquiet (Element.atRest_claimed h).1) hserve nofun
  · have hnone := (hs.place.withdraw_bareAt hx h).entries
    have hw : SettledAs e x x.taken (s.withdraw e) ((s.withdraw e).release e) :=
      State.release_settledAs hn hnone hserve hx (.inl h)
    exact ⟨hw.elem, hw.control, hw.services, hw.rests, hw.returns,
      fun m hm => (hw.moves m hm).imp_left fun h => by rw [hnone] at h; cases h.1⟩
  · have hstate : x.state = .waiting ∨ x.state = .verifying ∨ x.exposed = true ∨ x.state = .fault ∧ x.owner ≠ none := by
      rw [Element.exposed_iff, ← Option.isSome_iff_ne_none]
      tauto
    have hrest : x.atRest := by
      rcases h with h | h | h | ⟨h, -⟩
      · exact Element.atRest_verifying h
      · exact Element.atRest_exposed (.inl h)
      · exact Element.atRest_exposed (.inr h)
      · exact Element.atRest_fault h
    exact State.release_settledAs hn (hquiet hrest.1) hserve hx hstate
  · refine .left hx hserve (Element.taken_of_left ?_) (fun hr => hquiet fun hp => ?_) fun hr hdue => ?_
    · simp only [Option.isSome_eq_false_iff, Option.isNone_iff_eq_none] at h
      tauto
    · rcases hp with hp | ⟨hp, -⟩
      · rcases h with h | h | ⟨h, -⟩ | ⟨h, -⟩ <;> cases h.symm.trans hp
      · exact hr hp
    · rcases h with h | h | ⟨h, -⟩ | ⟨-, h | h | h | h⟩
      · cases hr.symm.trans h
      · cases hr.symm.trans h
      · cases hr.symm.trans h
      · cases h.symm.trans hdue
      · exact fun hnone => by rw [State.entriesOf_eq_nil.1 hnone] at h; cases h
      · rw [State.servicesOf_eq_nil.1 hserve] at h
        cases h
      · have := (hs.state x hx).hasTarget (by simp [hr])
        rw [h] at this
        cases this
  · rw [Element.taken_of_left (.inr (.inr (.inr h)))]
    exact .queueMove hn (State.entriesOf_eq_nil.2 hentry) hserve rfl hx h hk

end

theorem State.clearForRestart_sameAt (s : State) (e : ElemNo) : SameAt e s s.clearForRestart := ⟨rfl, rfl, rfl, rfl⟩

theorem State.restartElems_touches (s : State) : ArbTouched s s.restartElems := by
  have hfold : ∀ {f : ElemNo → State → State}, (∀ e s, ArbTouched s (f e s)) → ∀ (l : List ElemNo) (u : State),
      ArbTouched u (u.forElems l f) := by
    intro f hf l
    induction l with
    | nil => exact .refl
    | cons e l ih => exact fun u => (hf e u).trans (ih _)
  exact (hfold State.restartElem_touches _ s).trans (hfold (fun e s => s.modElem_arb e _) _ _)

/-- The release step at every element, before any move starts (R161, R162). -/
theorem State.restartElems_settledAs {s : State} (hs : s.lawful) (hn : s.nodeState ≠ .running) (hserve : s.services = [])
    {e : ElemNo} {x : Element} (hx : s.elem e = some x) :
    SettledAs e x (x.taken.dropHold s.config) s s.restartElems := by
  obtain ⟨u, v, hframe, hspares, hspares', hframe', hspares''⟩ := s.restartElems_split e
  have hu := hspares.sameAt hn
  have hun : u.nodeState ≠ .running := by rw [hframe.nodeState]; exact hn
  have hrn : (u.restartElem e).nodeState ≠ .running := by rw [(State.restartElem_touches e u).nodeState]; exact hun
  have hserve' : u.servicesOf e = [] := by rw [hu.services, State.servicesOf, hserve]; rfl
  have htaken : SettledAs e x x.taken u (u.restartElem e) :=
    State.restartElem_settledAs (hspares.lawAt hframe (hs e)) hun hserve' (hu.elem.trans hx)
  have hv : SettledAs e x x.taken s v := (htaken.of_same hu).same (hspares'.sameAt hrn)
  have hdrop := hv.dropHold s.config
  rw [hframe'.config] at hspares''
  refine hdrop.same (hspares''.sameAt ?_)
  rw [State.modElem_nodeState, hframe'.nodeState]
  exact hn

theorem State.restarted_config (s : State) : s.restarted.config = s.config := by
  obtain ⟨_, _, _, _, _, hv⟩ := s.restartElems_touches
  refine s.restarted_arbSame.config.trans ?_
  rw [hv]
  rfl

/-- What the release step leaves, but for the elements and their moves (R162, R163). -/
theorem State.releaseStep_frame {s : State} (hs : s.lawful)
    (hroom : (s.txQueue.filter (fun y => y.inTransmission)).length < Config.txCapacity) : s.releaseStep = { s with
      nodeState := .running, restartDrive := false, restart := none
      slots := Vector.replicate 8 Slot.idle, gateOut := Vector.replicate 8 false
      extTable := [], rxQueue := [], laneHold := 0, orderHead := 0
      txQueue := leavingOnly s.txQueue ++ [.new (.frame (.notice .started none 0))]
      reportSlot := if s.txQueue.any (fun y => y.inTransmission && y.item == .report) = true then s.reportSlot else none
      elems := s.releaseStep.elems, controls := s.releaseStep.controls, moveQueue := s.releaseStep.moveQueue
      services := s.releaseStep.services, channels := s.releaseStep.channels } := by
  obtain ⟨es, ct, mq, sv, ch, hv⟩ := s.restartElems_touches
  obtain ⟨es', ct', mq', sv', ch', ht⟩ := (State.releaseStep_starts hs).touches
  have hroom' : s.restartElems.clearForRestart.roomFor 1 := by
    rw [hv]
    refine ⟨nofun, ?_⟩
    change (leavingOnly s.txQueue).length + 1 ≤ Config.txCapacity
    rw [leavingOnly, List.length_map]
    exact hroom
  have hrestarted : s.restarted = _ := State.enqueue_of_room hroom' (.notice .started none 0)
  rw [hrestarted, hv] at ht
  rw [ht]
  rfl

/-- The moves that the release step leaves, once those that can start have started: an element whose move is not in
service has its settled record, and one whose move is in service has the record of its start. -/
theorem SettledAs.starts {e : ElemNo} {x z : Element} {s u t : State} (h : SettledAs e x z s u) (hstarts : Starts u t)
    (hconfig : u.config = s.config) (hcls : z.cls = x.cls) :
    (t.hasService e = false → t.elem e = some z ∧ t.control e = s.control e) ∧
    (z.state ≠ .returning → t.hasEntry e = false ∧ t.hasService e = false) ∧
    (z.state = .returning → z.verifyDue = false → t.hasEntry e = true ∨ t.hasService e = true) ∧
    (∀ m ∈ t.moveQueue, m.elem = e →
      m ∈ s.moveQueue ∧ x.state = .returning ∨ m.lane = 7 ∧ some m.target = z.target) ∧
    ∀ v ∈ t.services, v.elem = e →
      (v.lane = 7 ∧ some v.target = z.target ∨
        x.state = .returning ∧ ∃ m ∈ s.moveQueue, m.elem = e ∧ m.lane = v.lane ∧ m.target = v.target) ∧
      t.elem e = some (z.startMove s.config v.target) ∧
      t.control e = if x.cls = .solidState then v.target else s.control e := by
  cases hstarts.spares e with
  | same elem control entries services =>
    have hnone : t.servicesOf e = [] := services.trans h.services
    refine ⟨fun _ => ⟨elem.trans h.elem, control.trans h.control⟩,
      fun hr => ⟨State.entriesOf_eq_nil.1 (entries.trans (h.rests hr)), State.servicesOf_eq_nil.1 hnone⟩,
      fun hr hdue => .inl ?_, fun m hm he => ?_, fun v hv he => ?_⟩
    · by_contra hno
      exact h.returns hr hdue (entries.symm.trans (State.entriesOf_eq_nil.2 (by simpa using hno)))
    · have hmem : m ∈ u.entriesOf e := entries ▸ State.mem_entriesOf.2 ⟨hm, he⟩
      exact (h.moves m hmem).imp_left fun ⟨hmem, hr⟩ => ⟨(State.mem_entriesOf.1 hmem).1, hr⟩
    · have hmem : v ∈ t.servicesOf e := State.mem_servicesOf.2 ⟨hv, he⟩
      rw [hnone] at hmem
      cases hmem
  | started m w v mem before running unheld elem control entries services target lane =>
    cases h.elem.symm.trans before
    have hone : t.servicesOf e = [v] := by rw [services, h.services]; rfl
    have hhas : t.hasService e = true := State.hasService_iff.2 ⟨v, State.mem_of_servicesOf hone⟩
    refine ⟨fun hno => (nomatch hno.symm.trans hhas), fun hr => ?_, fun _ _ => .inr hhas, fun m' hm he => ?_,
      fun v' hv he => ?_⟩
    · rw [h.rests hr] at mem
      cases mem
    · have hmem : m' ∈ t.entriesOf e := State.mem_entriesOf.2 ⟨hm, he⟩
      rw [entries] at hmem
      cases hmem
    · have hmem : v' ∈ t.servicesOf e := State.mem_servicesOf.2 ⟨hv, he⟩
      rw [hone, List.mem_singleton] at hmem
      subst hmem
      rw [target, lane, elem, control, hcls, h.control, hconfig]
      refine ⟨?_, rfl, rfl⟩
      rcases h.moves m mem with ⟨hm, hr⟩ | ⟨hl, ht⟩
      · exact .inr ⟨hr, m, (State.mem_entriesOf.1 hm).1, (State.mem_entriesOf.1 hm).2, rfl, rfl⟩
      · exact .inl ⟨hl, ht⟩

/-- Settles O51: no move starts in RESTARTING, so each element is settled alone (`SettledAs`), and then the moves start.
-/
theorem restartEnds : Obligations.RestartEnds := by
  intro s r hr
  refine ⟨fun h => ?_, fun hw hserve harb hstates hn hroom => ?_⟩
  · change execRestartReleaseStep s = _
    rw [execRestartReleaseStep, hr]
    refine if_neg fun h' => ?_
    rw [Bool.and_eq_true, List.isEmpty_iff] at h'
    rcases h with h | h
    · cases h.symm.trans h'.1
    · exact h h'.2
  · have hs := harb.lawful hstates
    have hexec : exec .restartReleaseStep s = .next s.releaseStep := by
      change execRestartReleaseStep s = _
      rw [execRestartReleaseStep, hr]
      exact if_pos (by rw [hw, hserve]; rfl)
    have hquiet : s.releaseStep.quiet := State.startAll_quiet (State.restarted_lawful hs).known
    have hstarts := State.releaseStep_starts hs
    have hnrun : s.nodeState ≠ .running := by rw [hn]; nofun
    have hsettled := fun e x (hx : s.elem e = some x) =>
      ((State.restartElems_settledAs hs hnrun hserve hx).same (State.clearForRestart_sameAt _ e)).same
        (s.restarted_arbSame.sameAt e)
    refine ⟨_, hexec, ?_, hquiet.1, hquiet.2, fun e x hx => ?_⟩
    · exact State.releaseStep_frame hs hroom
    · have h := hsettled e x hx
      have hmoving : x.state ≠ .moving := fun hm => by
        have := harb.moving e x hx hm
        rw [State.hasService, hserve] at this
        cases this
      intro back y taken wear z
      have htaken : taken = x.taken := by
        rw [Element.taken, x.releaseTarget_eq]
        rfl
      have hz : z = x.taken.dropHold s.config := by
        rw [x.taken_dropHold, ← htaken]
      rw [← hz] at h
      have hcls : z.cls = x.cls := hz ▸ (x.taken.dropHold_evolves s.config).cls.trans x.taken_same.1
      exact ⟨hmoving, h.starts hstarts s.restarted_config hcls⟩

end Sys2Proof.Machine
end

section
/-!
PROOFS. The configuration image, refused and accepted (O6, O7).
-/

namespace Sys2Proof.Machine

theorem exec_imageReadDone {s : State} (hn : s.nodeState = .starting) (hl : s.loader = .reading) (image : List Byte) :
    exec (.imageReadDone image) s = .next (if imageOk image then s.acceptImage image else s.refuseImage) := by
  change execImageReadDone image s = _
  exact if_pos ⟨hn, hl⟩

/-- Settles O6: the refused image is captured as the first fault. -/
theorem faultyImageIsRefused : Obligations.FaultyImageIsRefused := by
  intro image s hn hl hroom hfault hfaulty
  have hexec := exec_imageReadDone hn hl image
  rw [if_neg (by rw [(imageFaulty_iff image).1 hfaulty]; nofun), State.refuseImage, State.capture_of_room (n := 0)] at hexec
  · rw [FaultRecord.after, if_pos hfault, if_pos hfault] at hexec
    exact ⟨_, hexec, rfl, rfl, rfl⟩
  · exact hroom.of_eq rfl rfl

/-- The class of a record, of a code in the range of section 11.3. -/
theorem classOf_iff {n : Nat} (h : 1 ≤ n ∧ n ≤ 3) :
    (classOf n = .latching ↔ n = 1) ∧ (classOf n = .failsafe ↔ n = 2) ∧ (classOf n = .solidState ↔ n = 3) := by
  obtain ⟨h1, h3⟩ := h
  interval_cases n <;> decide

/-- Settles O7: the figures and records of an image are read byte by byte. -/
theorem soundImageIsAccepted : Obligations.SoundImageIsAccepted := by
  intro image s hn hl hsound
  have hok : imageOk image = true := by simpa [imageFaulty_iff] using hsound
  have hexec := exec_imageReadDone hn hl image
  rw [if_pos hok] at hexec
  have helem := s.acceptImage_elem image
  refine ⟨_, hexec, rfl, bne_iff_ne, rfl, rfl, ?_, rfl, rfl, rfl, rfl, rfl, rfl, rfl, fun e => ?_, fun e x hx => ?_⟩
  · exact Nat.mod_eq_of_lt (Nat.lt_succ_of_le (imageByte_le image 6))
  · rw [helem e]
    split <;> simp [*]
  · rw [helem e] at hx
    split at hx
    next hlt =>
      cases hx
      have hclass : 1 ≤ imageByte image (19 + 6 * e) ∧ imageByte image (19 + 6 * e) ≤ 3 := by
        unfold imageFaulty at hsound
        dsimp only at hsound
        push Not at hsound
        obtain ⟨-, -, -, -, -, -, -, hentries⟩ := hsound
        obtain ⟨h1, h3, -⟩ := hentries e hlt
        exact ⟨h1, h3⟩
      obtain ⟨h1, h2, h3⟩ := classOf_iff hclass
      have hat : ∀ k, entryAt e + k = 19 + k + 6 * e := fun k => by rw [entryAt]; omega
      have hflags : imageByte image (entryAt e + 2) = imageByte image (21 + 6 * e) := congrArg _ (hat 2)
      refine ⟨h1, h2, h3, congrArg (imageByte image) (hat 1), congrArg (Nat.testBit · 7) hflags, ?_, fun p hp => ?_, ?_, rfl,
        imageElement_recordSafe image e, rfl, rfl, rfl, rfl, rfl, rfl, rfl, rfl, rfl, rfl, rfl⟩
      · rw [← hflags]
        simp only [imageElement]
        split <;> simp_all
      · rw [← hflags]
        simp only [imageElement] at hp
        split at hp
        · cases hp
          exact Nat.mod_mod_of_dvd _ (by decide)
        · cases hp
      · change imageByte image (entryAt e + 3) * 65536 +
          (imageByte image (entryAt e + 4) * 256 + imageByte image (entryAt e + 5)) = _
        rw [hat, hat, hat]
        exact (Nat.add_assoc _ _ _).symm
    next => cases hx

end Sys2Proof.Machine
end

section
/-!
PROOFS. The slots: the trigger of a scan (O26), the sensed quench line (O27), the ready set (O40) and the causes that end
a path (O41).
-/

namespace Sys2Proof.Machine

/-! ### The next throw of a scan (R144) -/

theorem mem_setThrows {S : ThrowSet} {t : Throw} (h : inSet S t = true) : t ∈ setThrows := by
  have hmem : ∀ t : Throw, t.val < 12 → t ∈ setThrows := by decide
  refine hmem t ?_
  by_contra hlt
  rw [inSet, BitVec.getLsbD_of_ge _ _ (not_lt.1 hlt)] at h
  cases h

/-- The first throw that passes a test is the least. -/
theorem le_of_find?_setThrows {p : Throw → Bool} {k j : Throw} (h : setThrows.find? p = some k) (hj : j ∈ setThrows)
    (hp : p j = true) : k ≤ j := by
  obtain ⟨-, as, bs, hsplit, has⟩ := List.find?_eq_some_iff_append.1 h
  have hsorted : setThrows.Pairwise (· < ·) := by decide
  rw [hsplit] at hj hsorted
  obtain hold | hnew := List.mem_append.1 hj
  · have := has j hold
    rw [hp] at this
    cases this
  · obtain rfl | hlater := List.mem_cons.1 hnew
    · exact le_rfl
    · exact ((List.pairwise_cons.1 (List.pairwise_append.1 hsorted).2.1).1 j hlater).le

/-- The next throw of a set that holds the current one: the least above it, or, with a wrap, the least of all. -/
theorem nextThrow_spec {S : ThrowSet} {c : Throw} (hc : inSet S c = true) : ∃ k wraps,
    nextThrow S c = some (k, wraps) ∧ inSet S k = true ∧
    (wraps = true ↔ ∀ j : Throw, inSet S j = true → j ≤ c) ∧
    (wraps = false → c < k ∧ ∀ j : Throw, inSet S j = true → c < j → k ≤ j) ∧
    (wraps = true → ∀ j : Throw, inSet S j = true → k ≤ j) := by
  unfold nextThrow
  cases habove : setThrows.find? (fun t => inSet S t && decide (c < t)) with
  | some k =>
    obtain ⟨hk, hck⟩ : inSet S k = true ∧ c < k := by simpa using List.find?_some habove
    refine ⟨k, false, rfl, hk, ⟨nofun, fun h => absurd (h k hk) (not_le.2 hck)⟩, fun _ => ⟨hck, fun j hj hlt => ?_⟩, nofun⟩
    exact le_of_find?_setThrows habove (mem_setThrows hj) (by simp [hj, hlt])
  | none =>
    have hle : ∀ j : Throw, inSet S j = true → j ≤ c := fun j hj => by
      have := List.find?_eq_none.1 habove j (mem_setThrows hj)
      simpa [hj] using this
    cases hfirst : setThrows.find? (fun t => inSet S t) with
    | none => exact absurd hc (List.find?_eq_none.1 hfirst c (mem_setThrows hc))
    | some k =>
      exact ⟨k, true, rfl, List.find?_some hfirst, iff_of_true rfl hle, nofun,
        fun _ j hj => le_of_find?_setThrows hfirst (mem_setThrows hj) hj⟩

/-! ### A trigger (R143 to R145) -/

section
variable {s : State} {g : Gate} {sc : Scan}

theorem State.trigger_idle (h : (s.slot g).scan = none ∨ (s.slot g).scan.any (·.ended) = true ∨
    (s.slot g).state = .collecting ∨ (s.slot g).state = .idle ∨ (s.slot g).state = .releasing) : s.trigger g = s := by
  unfold State.trigger
  split
  · rfl
  next sc hsc =>
    split
    · rfl
    next hended =>
      rw [hsc] at h
      rcases h with h | h | h | h | h
      · cases h
      · exact absurd h hended
      all_goals rw [h]

theorem State.trigger_waits (hsc : (s.slot g).scan = some sc) (hended : sc.ended = false)
    (h : (s.slot g).state = .quenching ∨ (s.slot g).state = .stepping ∨ (s.slot g).state = .held) : s.trigger g =
      s.setSlot g { s.slot g with
        scan := some (if sc.pending = true then { sc with overrun := min (sc.overrun + 1) 255 }
          else { sc with pending := true }) } := by
  rw [State.trigger, hsc]
  dsimp only
  rw [if_neg (by rw [hended]; nofun)]
  rcases h with h | h | h <;> rw [h] <;> rfl

theorem State.trigger_hot (hsc : (s.slot g).scan = some sc) (hended : sc.ended = false) (h : (s.slot g).state = .hot) :
    s.trigger g = s.triggerHot g sc := by
  rw [State.trigger, hsc]
  dsimp only
  rw [if_neg (by rw [hended]; nofun), h]

end

theorem exec_triggerEdge (s : State) (g : Gate) :
    exec (.triggerEdge g) s = .next (if s.nodeState = .running then s.trigger g else s) := by
  change execTriggerEdge g s = _
  unfold execTriggerEdge
  split <;> rfl

/-- Settles O26: by the state of the slot, and in HOT by the next throw (`nextThrow_spec`). -/
theorem triggerStepsScan : Obligations.TriggerStepsScan := by
  intro s u c g hc sl
  have hexec : exec c s = .next (if s.nodeState = .running then u.trigger g else u) := by
    rcases hc with ⟨rfl, rfl⟩ | ⟨a, rfl, hhead, rfl⟩
    · exact exec_triggerEdge u g
    · rw [exec_frameSeenAdvance_of_headFrame hhead]
      by_cases hn : s.nodeState = .running
      · rw [if_pos hn, if_pos (State.anchors_iff.2 ⟨hn, rfl⟩)]
        rfl
      · rw [if_neg hn, State.anchors_false (.inl hn)]
        rfl
  obtain ⟨hslots, hconfig, hgates, htx, hrestart, haddress⟩ : u.slots = s.slots ∧ u.config = s.config ∧ u.gateOut = s.gateOut ∧
      u.txQueue = s.txQueue ∧ u.restart = s.restart ∧ u.address = s.address := by
    rcases hc with ⟨-, rfl⟩ | ⟨a, -, -, rfl⟩ <;> exact ⟨rfl, rfl, rfl, rfl, rfl, rfl⟩
  have hslot : u.slot g = sl := by rw [State.slot, hslots]; rfl
  have hput : ∀ sl', u.setSlot g sl' = { u with slots := s.slots.set g sl' } := fun sl' => by rw [State.setSlot, hslots]
  refine ⟨_, hexec, fun hn => if_neg hn, fun hidle => ?_, fun sc hsc hended hn hroom => ⟨fun hw => ?_, fun hhot hd => ?_,
    fun hhot hd hcur => ?_⟩⟩
  · rw [← hslot] at hidle
    rw [State.trigger_idle hidle, ite_self]
  all_goals
    rw [if_pos hn]
    rw [← hslot] at hsc
  · rw [State.trigger_waits hsc hended (by rw [hslot]; exact hw), hput, hslot]
  · rw [State.trigger_hot hsc hended (by rw [hslot]; exact hhot), State.triggerHot, hslot]
    exact (if_pos hd).trans (hput _)
  · obtain ⟨k, wraps, hnext, hk, hwraps, habove, hfirst⟩ := nextThrow_spec hcur
    refine ⟨k, wraps, hk, hwraps, habove, hfirst, ?_⟩
    intro counted sc'
    have heq : u.trigger g =
        if counted ∧ sc.cycles ≤ 1 then
          (u.setSlot g { sl with scan := some { sc with cycles := 0, ended := true, pending := false } }).enqueueLast
            (.frame (.notice .scanEnd (some ⟨u.address, g⟩) Reason.done.code))
        else u.makeStep g sc' k := by
      rw [State.trigger_hot hsc hended (by rw [hslot]; exact hhot), State.triggerHot, hslot]
      dsimp only
      rw [if_neg (by omega), hnext]
      simp only [Bool.and_eq_true, bne_iff_ne, decide_eq_true_eq]
      rfl
    rw [heq]
    by_cases hend : counted ∧ sc.cycles ≤ 1
    · have hroom' : (u.setSlot g { sl with scan := some { sc with cycles := 0, ended := true, pending := false } }).roomFor 1 :=
        hroom.of_eq htx hrestart
      rw [if_pos hend, if_pos hend, State.enqueueLast_of_room hroom', hput, haddress]
      dsimp only
      rw [htx]
      rfl
    · rw [if_neg hend, if_neg hend, State.makeStep, hslot]
      dsimp only
      by_cases hk : k = sc.current
      · rw [if_pos hk, if_pos hk, hput]
      · rw [if_neg hk, if_neg hk, hput, State.setGate]
        rw [hgates, hconfig]

/-! ### The sensed quench line (R152, R153) -/

/-- A slot as the sensed quench line holds it (R153). -/
def Slot.asserted (sl : Slot) : Slot :=
  if sl.state = .hot ∨ sl.state = .held then { sl with state := .held, quenchTimer := none, purpose := none } else sl

/-- What the assertion does at one slot. -/
theorem State.slotAsserted_of_room {s : State} {n : Nat} (hroom : s.roomFor (n + 1)) (g : Gate) :
    s.slotAsserted g = { s with
      slots := s.slots.set g (s.slot g).asserted
      gateOut := if (s.slot g).state = .hot then s.gateOut.set g false else s.gateOut
      txQueue := s.txQueue ++
        (if (s.slot g).state = .hot then [.new (.frame (.cold ⟨s.address, g⟩ .all))] else []) } := by
  rw [State.slotAsserted, Slot.asserted]
  cases hs : (s.slot g).state
  case hot =>
    have hroom' : ((s.setSlot g { s.slot g with state := .held, quenchTimer := none, purpose := none }).setGate g
        false).roomFor (n + 1) := hroom.of_eq rfl rfl
    exact State.enqueue_of_room hroom' _
  case held =>
    rw [if_pos (show SlotState.held = .hot ∨ SlotState.held = .held from .inr rfl)]
    simp only [reduceCtorEq, if_false, List.append_nil]
    rfl
  all_goals
    have hself : s.slots.set g (s.slot g) = s.slots := Vector.set_getElem_self _
    simp only [reduceCtorEq, or_self, if_false, List.append_nil, hself]

/-- The assertion at each slot of a list. -/
theorem State.foldl_slotAsserted : ∀ {l : List Gate} {s : State}, l.Nodup → s.roomFor l.length →
    ∃ v w, l.foldl (fun s g => s.slotAsserted g) s = { s with
        slots := v, gateOut := w
        txQueue := s.txQueue ++ (l.filter (fun g => (s.slot g).state == .hot)).map (fun g =>
          .new (.frame (.cold ⟨s.address, g⟩ .all))) } ∧
      ∀ g : Gate, v[g] = (if g ∈ l then (s.slot g).asserted else s.slot g) ∧
        w[g] = if g ∈ l then s.gate g && (s.slot g).state != .hot else s.gate g
  | [], s, _, _ => ⟨s.slots, s.gateOut, by simp, fun g => ⟨by simp [State.slot], by simp [State.gate]⟩⟩
  | a :: l, s, hl, hroom => by
    obtain ⟨hnew, hl⟩ := List.nodup_cons.1 hl
    have heq := State.slotAsserted_of_room hroom a
    have hroom' : (s.slotAsserted a).roomFor l.length := by
      rw [heq]
      have hlen : s.txQueue.length + (l.length + 1) ≤ Config.txCapacity := hroom.room
      refine ⟨hroom.noneWaits, ?_⟩
      rw [List.length_append]
      split
      · rw [List.length_singleton]
        omega
      · rw [List.length_nil]
        omega
    have hslot : ∀ g, (s.slotAsserted a).slot g = if g = a then (s.slot a).asserted else s.slot g := fun g => by
      rw [heq]
      exact s.slot_setSlot a g _
    have hgate : ∀ g, (s.slotAsserted a).gate g = if g = a then s.gate a && (s.slot a).state != .hot else s.gate g := fun g => by
      rw [heq]
      by_cases hs : (s.slot a).state = .hot
      · rw [if_pos hs, hs]
        exact (s.gate_setGate a g false).trans (by simp)
      · rw [if_neg hs, if_neg hs, bne_iff_ne.2 hs, Bool.and_true]
        by_cases hg : g = a
        · rw [if_pos hg, hg]
          rfl
        · rw [if_neg hg]
          rfl
    obtain ⟨v, w, hfold, hvw⟩ := State.foldl_slotAsserted hl hroom'
    have hfilter : l.filter (fun g => ((s.slotAsserted a).slot g).state == .hot) =
        l.filter (fun g => (s.slot g).state == .hot) :=
      List.filter_congr fun g hg => by rw [hslot, if_neg (show g ≠ a from fun h => hnew (h ▸ hg))]
    refine ⟨v, w, ?_, fun g => ?_⟩
    · rw [List.foldl_cons, hfold, hfilter, heq, List.filter_cons]
      by_cases hs : (s.slot a).state = .hot
      · simp [hs]
      · simp [hs]
    · obtain ⟨hv, hw⟩ := hvw g
      rw [hv, hw, hslot, hgate]
      by_cases hg : g = a
      · subst hg
        rw [if_neg hnew, if_neg hnew, if_pos rfl, if_pos rfl, if_pos List.mem_cons_self, if_pos List.mem_cons_self]
        exact ⟨rfl, rfl⟩
      · have hmem : g ∈ a :: l ↔ g ∈ l := by simp [hg]
        rw [if_neg hg, if_neg hg, if_congr hmem rfl rfl, if_congr hmem rfl rfl]
        exact ⟨rfl, rfl⟩

/-- Settles O27: the assertion over the gates in turn (`State.foldl_slotAsserted`); the release maps every slot. -/
theorem quenchLineHoldsGates : Obligations.QuenchLineHoldsGates := by
  have hassert : ∀ s : State, s.quenchSensed = false → exec .quenchAssertionSensed s =
      .next (if s.nodeState = .running then State.forSlots { s with quenchSensed := true } State.slotAsserted
        else { s with quenchSensed := true }) := fun s hq => by
    change execQuenchAssertionSensed s = _
    rw [execQuenchAssertionSensed, hq]
    rfl
  have hrelease : ∀ s : State, s.quenchSensed = true → s.quenchDriven = false → exec .quenchReleaseSensed s =
      .next (if s.nodeState = .running then
          { s with quenchSensed := false, slots := s.slots.map (Slot.startResume s.config.quenchTime) }
        else { s with quenchSensed := false }) := fun s hq hd => by
    change execQuenchReleaseSensed s = _
    rw [execQuenchReleaseSensed, hq, hd]
    rfl
  refine ⟨fun s hn => ⟨fun hq => ?_, fun hq hd => ?_⟩, fun s hn => ⟨fun hq hroom => ?_, fun hq hd => ?_⟩⟩
  · rw [hassert s hq, if_neg hn]
  · rw [hrelease s hq hd, if_neg hn]
  · have hroom' : ({ s with quenchSensed := true } : State).roomFor allGates.length := hroom.of_eq rfl rfl
    obtain ⟨v, w, hfold, hvw⟩ := State.foldl_slotAsserted (by decide : allGates.Nodup) hroom'
    refine ⟨_, (hassert s hq).trans (congrArg _ ((if_pos hn).trans hfold)), rfl, fun g => ?_⟩
    obtain ⟨hv, hw⟩ := hvw g
    rw [if_pos (mem_allGates g)] at hv hw
    exact ⟨hv, hw⟩
  · refine ⟨_, (hrelease s hq hd).trans (congrArg _ (if_pos hn)), rfl, fun g => ?_⟩
    exact Vector.getElem_map ..

end Sys2Proof.Machine
end

section
/-!
PROOFS. The ready set of a slot (O40) and the causes that end a path (O41).
-/

namespace Sys2Proof.Machine

/-! ### HOPSTAT Ready (R119, R120) -/

theorem fullMask_getLsbD (n : Nat) (k : HopNo) : (fullMask n).getLsbD k = decide (k.val < n) := by
  have hk := k.isLt
  rw [fullMask, BitVec.getLsbD_ofNat, Nat.testBit_two_pow_sub_one]
  simp [hk]

/-- The ready set grows by the reported hops that the path has. -/
theorem Slot.takeReady_ready (sl : Slot) (mask : HopMask) (k : HopNo) :
    (sl.takeReady mask).ready.getLsbD k = true ↔
      sl.ready.getLsbD k = true ∨ mask.getLsbD k = true ∧ k.val < sl.hops.length := by
  rw [Slot.takeReady, BitVec.getLsbD_or, BitVec.getLsbD_and, fullMask_getLsbD _]
  simp only [Bool.or_eq_true, Bool.and_eq_true, decide_eq_true_iff]
  rfl

/-- A ready set that names the path's hops only is full when it names all of them. -/
theorem Slot.full_iff {sl : Slot} (hready : ∀ k : HopNo, sl.ready.getLsbD k = true → k.val < sl.hops.length) :
    sl.full = true ↔ ∀ k : HopNo, k.val < sl.hops.length → sl.ready.getLsbD k = true := by
  rw [Slot.full, beq_iff_eq]
  refine ⟨fun h k hk => ?_, fun h => BitVec.eq_of_getLsbD_eq fun i hi => ?_⟩
  · rw [h]
    exact (fullMask_getLsbD _ k).trans (decide_eq_true hk)
  · refine Eq.trans ?_ (fullMask_getLsbD _ ⟨i, hi⟩).symm
    rw [Bool.eq_iff_iff, decide_eq_true_iff]
    exact ⟨hready ⟨i, hi⟩, h ⟨i, hi⟩⟩

theorem State.seeReady_of_other {s : State} {g : Gate} (h : ¬((s.slot g).state = .collecting ∨ (s.slot g).state = .stepping))
    (mask : HopMask) : s.seeReady g mask = s := by
  unfold State.seeReady
  split
  next hs => exact absurd (.inl hs) h
  next hs => exact absurd (.inr hs) h
  all_goals rfl

theorem State.seeReady_of_waiting {s : State} {g : Gate} (h : (s.slot g).state = .collecting ∨ (s.slot g).state = .stepping)
    (mask : HopMask) : s.seeReady g mask = (s.setSlot g ((s.slot g).takeReady mask)).testReady g := by
  rcases h with h | h <;> rw [State.seeReady, h]

/-- Settles O40: the report is taken, and then the ready set tested against the full mask. -/
theorem readyReportsFillSet : Obligations.ReadyReportsFillSet := by
  intro s a h mask reason wear hhead g sl n u waits
  have hexec := exec_frameSeenHopstat_of_headFrame hhead
  refine ⟨_, hexec, fun hw => ?_, fun ⟨hn, ha, hstate⟩ h1 h8 hready => ?_⟩
  · by_cases hanchors : s.anchors h = true
    · obtain ⟨hn, ha⟩ := State.anchors_iff.1 hanchors
      rw [if_pos hanchors]
      exact State.seeReady_of_other (s := s.popFrame) (fun hs => hw ⟨hn, ha, hs⟩) mask
    · exact if_neg hanchors
  · have hseen : (if s.anchors h then s.popFrame.seeHopstat h.gate mask .ready else s.popFrame) =
        (u.setSlot g (sl.takeReady mask)).testReady g := by
      rw [if_pos (State.anchors_iff.2 ⟨hn, ha⟩)]
      exact State.seeReady_of_waiting (s := u) hstate mask
    rw [hseen]
    have hbits := fun k => sl.takeReady_ready mask k
    refine ⟨sl.takeReady mask, rfl, hbits, ?_, ?_⟩
    · have hlast : mask.getLsbD sl.lastHop = mask.getLsbD (n - 1) :=
        congrArg mask.getLsbD (Nat.mod_eq_of_lt (show n - 1 < 8 by omega))
      rw [Slot.takeReady, hlast]
      simp only [Bool.and_eq_true, beq_iff_eq]
      rfl
    · intro full v
      have hin : ∀ k : HopNo, (sl.takeReady mask).ready.getLsbD k = true → k.val < n := fun k hk => by
        rcases (hbits k).1 hk with hk | ⟨-, hk⟩
        · by_contra hlt
          have hzero := congrArg (fun m => BitVec.getLsbD m k) hready
          rw [BitVec.getLsbD_and, BitVec.getLsbD_not, fullMask_getLsbD, hk, decide_eq_false hlt, decide_eq_true k.isLt] at hzero
          simp at hzero
        · exact hk
      have hfull : (sl.takeReady mask).full = true ↔ full := Slot.full_iff hin
      have hset : ∀ sl', (u.setSlot g (sl.takeReady mask)).setSlot g sl' = { u with slots := s.slots.set g sl' } := fun sl' =>
        congrArg (fun v : Vector Slot 8 => { u with slots := v }) (Vector.set_set ..)
      have hhandle : (⟨s.address, g⟩ : Handle) = h := by rw [← ha]
      have hslot : (u.setSlot g (sl.takeReady mask)).slot g = sl.takeReady mask := u.slot_setSlot_self g _
      refine ⟨fun hno => ?_, fun hall hq => ?_, fun hall hq hroom => ?_⟩
      · rw [State.testReady, hslot]
        exact if_neg (mt hfull.1 hno)
      · rw [State.testReady, hslot]
        exact (if_pos (hfull.2 hall)).trans ((if_pos hq).trans (hset _))
      · have hwroom : (u.setSlot g (sl.takeReady mask)).roomFor 1 := hroom.of_eq rfl rfl
        have htest : (u.setSlot g (sl.takeReady mask)).testReady g = (u.setSlot g (sl.takeReady mask)).openGate g := by
          rw [State.testReady, hslot]
          exact (if_pos (hfull.2 hall)).trans (if_neg (by rw [show (u.setSlot g (sl.takeReady mask)).quenchSensed = false from hq]; nofun))
        have hopen : (u.setSlot g (sl.takeReady mask)).openGate g =
            if sl.state = .stepping ∨ sl.state = .held then v.takePending g else v := by
          have hv : v = { u.setSlot g (sl.takeReady mask) with
              slots := ((u.setSlot g (sl.takeReady mask)).slots.set g { sl.takeReady mask with
                state := .hot, timer := none, quenchTimer := none, purpose := none })
              gateOut := s.gateOut.set g true
              txQueue := s.txQueue ++ [⟨.frame (.hot ⟨s.address, g⟩), false, false⟩] } := by
            rw [hhandle]
            exact congrArg (fun w : Vector Slot 8 => { v with slots := w }) (Vector.set_set ..).symm
          rw [State.openGate_of_room hwroom, hslot, hv]
          rfl
        have hself : v.slot g = { sl.takeReady mask with
            state := .hot, timer := none, quenchTimer := none, purpose := none } := u.slot_setSlot_self g _
        have hvslot : (v.slot g).scan = (sl.takeReady mask).scan := by rw [hself]
        rw [htest, hopen]
        refine ⟨fun hquiet => ?_, fun hstep sc hsc hp => ?_⟩
        · split
          next hopened =>
            rcases hquiet with hs | hp
            · rcases hopened with h | h <;> cases hs.symm.trans h
            · rw [State.takePending, hvslot]
              cases hsc : (sl.takeReady mask).scan with
              | none => rfl
              | some sc =>
                rw [hsc] at hp
                exact if_neg (by simpa using hp)
          next => rfl
        · rw [if_pos (.inl hstep), State.takePending, hvslot, hsc]
          exact if_pos hp

/-! ### The causes that end a path (R121 to R129) -/

/-- The end of a path by the state of its slot. -/
theorem State.endPath_of_room {s : State} {n : Nat} (hroom : s.roomFor (n + 1)) (g : Gate) (why : Reason) :
    s.endPath g why = match (s.slot g).state with
      | .idle | .releasing => s
      | .collecting | .stepping => { s with
        slots := s.slots.set g { s.slot g with
          state := .releasing, timer := none, quenchTimer := none, purpose := none
          stepThrow := none, releaseReason := some why }
        txQueue := s.txQueue ++ [⟨.frame (.release ⟨s.address, g⟩ why.code), false, false⟩] }
      | .hot => { s with
        slots := s.slots.set g ((s.slot g).quenchForRelease s.config.quenchTime why), gateOut := s.gateOut.set g false
        txQueue := s.txQueue ++ [⟨.frame (.cold ⟨s.address, g⟩ .all), false, false⟩] }
      | .held => { s with slots := s.slots.set g ((s.slot g).quenchForRelease s.config.quenchTime why) }
      | .quenching =>
        if (s.slot g).purpose = some .step then { s with
          slots := s.slots.set g { s.slot g with
            purpose := some .release, stepThrow := none, releaseReason := some why } }
        else s := by
  have hrelease := State.slotRelease_of_room hroom g why
  have hroom' : ((s.setSlot g ((s.slot g).quenchForRelease s.config.quenchTime why)).setGate g false).roomFor (n + 1) :=
    hroom.of_eq rfl rfl
  rw [State.endPath]
  dsimp only
  cases (s.slot g).state
  case hot => exact State.enqueue_of_room hroom' _
  case collecting => exact hrelease
  case stepping => exact hrelease
  all_goals rfl

/-- Settles O41: every cause ends in `endPath` on the same state. -/
theorem pathEndingCauses : Obligations.PathEndingCauses := by
  intro s a c f h why hn hdrives hroom hhead hcause g sl u quenching
  have hrestart : s.restart = none := by
    rw [← Option.not_isSome_iff_eq_none, hdrives.sequence, hn]
    nofun
  have hexec : exec c s = .next (if s.anchors h then u.endPath g why else u) := by
    rcases hcause with ⟨m, r, w, rfl, rfl, rfl⟩ | ⟨m, r, w, rfl, rfl, rfl⟩ | ⟨rfl, rfl, rfl⟩ | ⟨m, r, rfl, rfl, rfl⟩
    · exact exec_frameSeenHopstat_of_headFrame hhead
    · exact exec_frameSeenHopstat_of_headFrame hhead
    · exact exec_frameSeenDrop_of_headFrame hhead
    · have hu : (if a = s.address then s.popFrame.accountOwn RestartSeq.see (.brk h m r) else s.popFrame) = u := by
        by_cases ha : a = s.address
        · have hpop : s.popFrame.restart = none := hrestart
          rw [if_pos ha, State.accountOwn_brk, hpop, Option.map_none, ← hpop]
          have hout : u.breaksOut = if r = 19 then s.breaksOut.erase h else s.breaksOut :=
            if_congr (and_iff_right ha) rfl rfl
          exact congrArg (fun b => { u with breaksOut := b }) hout.symm
        · have hout : u.breaksOut = s.breaksOut := if_neg fun h => ha h.1
          rw [if_neg ha]
          exact congrArg (fun b => { u with breaksOut := b }) hout.symm
      rw [exec_frameSeenBreak_of_headFrame hhead, hu]
  have hslot : u.slot g = sl := rfl
  have huroom : u.roomFor 1 := hroom.of_eq rfl rfl
  rw [hexec]
  by_cases ha : h.anchor = s.address
  · rw [if_neg (not_not.2 ha), if_pos (State.anchors_iff.2 ⟨hn, ha⟩), State.endPath_of_room huroom, hslot]
    have hhandle : (⟨u.address, g⟩ : Handle) = h := by rw [show u.address = s.address from rfl, ← ha]
    rw [hhandle]
    rfl
  · rw [if_pos ha, State.anchors_false (.inr (Ne.symm ha))]
    rfl

end Sys2Proof.Machine
end

section
/-!
PROOFS. The transmit side: a frame that finds the transmit queue full (O32), the attempts (O28) and the end of the node's
own frame (O29).
-/

namespace Sys2Proof.Machine

/-! ### What the loss of a queued frame settles (R64, R89, R160) -/

/-- The drop-out BREAKs that remain to be accounted for when a frame is lost. -/
def TxItem.breaksAfter (out : List Handle) : TxItem → List Handle
  | .frame (.brk h _ r) => if r = 19 then out.erase h else out
  | _ => out

/-- The teardown frames that remain to be accounted for when a frame is lost. -/
def TxItem.teardownAfter (out : List Teardown) : TxItem → List Teardown
  | .frame (.brk h _ _) => out.erase (.brk h)
  | .frame (.release h _) => out.erase (.release h)
  | _ => out

theorem State.accountOwn_lose (s : State) (f : Frame) : s.accountOwn RestartSeq.lose f = { s with
    breaksOut := (TxItem.frame f).breaksAfter s.breaksOut
    restart := s.restart.map (fun r => { r with outstanding := (TxItem.frame f).teardownAfter r.outstanding }) } := by
  have hout : (s.accountOwn RestartSeq.lose f).breaksOut = (TxItem.frame f).breaksAfter s.breaksOut := by
    cases f <;> rfl
  have hrestart : (s.accountOwn RestartSeq.lose f).restart =
      s.restart.map (fun r => { r with outstanding := (TxItem.frame f).teardownAfter r.outstanding }) := by
    cases f <;> cases hr : s.restart <;> simp [State.accountOwn, Frame.teardown, hr, RestartSeq.lose, TxItem.teardownAfter]
  rw [← hout, ← hrestart]
  rfl

theorem State.fillTeardown_of_full {s : State} (hfull : s.txQueue.length = Config.txCapacity) : s.fillTeardown = s := by
  unfold State.fillTeardown
  cases hr : s.restart with
  | none => rfl
  | some r =>
    have hnone : Config.txCapacity - s.txQueue.length = 0 := by omega
    dsimp only
    rw [hnone]
    simp [← hr]

/-- A NOTICE that finds the queue full is dropped and counted (R88). -/
theorem State.enqueueLast_of_length {s : State} (hfull : s.txQueue.length = Config.txCapacity) (i : TxItem) :
    s.enqueueLast i = s.countDrop := by
  rw [State.enqueueLast, State.fillTeardown_of_full hfull]
  exact if_neg (by omega)

theorem State.capture_of_full {s : State} (hfull : s.txQueue.length = Config.txCapacity) (k : FaultKind)
    (loc : Option ElemNo) (h : Option Handle) : s.capture k loc h = { s with
      fault := s.fault.after k loc h
      txDrops := if s.fault.kind = none then min (s.txDrops + 1) 255 else s.txDrops } := by
  by_cases hk : s.fault.kind = none
  · have hfull' : ({ s with fault := ⟨some k, loc, h, 0⟩ } : State).txQueue.length = Config.txCapacity := hfull
    rw [if_pos hk, State.capture_of_none hk, State.enqueueLast_of_length hfull', FaultRecord.after, if_pos hk]
    rfl
  · rw [if_neg hk, State.capture_later _ hk]

theorem State.settleLoss_of_full {s : State} (hfull : s.txQueue.length = Config.txCapacity) (i : TxItem) :
    s.settleLoss i = { s with
      txDrops := min (s.txDrops + if i.cls ≤ 1 ∧ s.fault.kind = none then 2 else 1) 255
      fault := if i.cls ≤ 1 then s.fault.after .txLost none none else s.fault
      reportSlot := if i = .report then none else s.reportSlot
      breaksOut := i.breaksAfter s.breaksOut
      restart := s.restart.map (fun r => { r with outstanding := i.teardownAfter r.outstanding }) } := by
  cases i with
  | report =>
    have hid : s.restart.map (fun r => { r with outstanding := TxItem.report.teardownAfter r.outstanding }) = s.restart := by
      cases s.restart <;> rfl
    rw [hid]
    rfl
  | frame f =>
    have hfull' : (s.countDrop.accountOwn RestartSeq.lose f).txQueue.length = Config.txCapacity := hfull
    have hframe : (TxItem.frame f).cls = f.cls := rfl
    rw [State.settleLoss, hframe, if_neg (show ¬TxItem.frame f = .report from nofun)]
    by_cases hcls : f.cls ≤ 1
    · have hdrops : min (s.txDrops + if f.cls ≤ 1 ∧ s.fault.kind = none then 2 else 1) 255 =
          if s.fault.kind = none then min (min (s.txDrops + 1) 255 + 1) 255 else min (s.txDrops + 1) 255 := by
        by_cases hkind : s.fault.kind = none
        · rw [if_pos ⟨hcls, hkind⟩, if_pos hkind]
          omega
        · rw [if_neg fun h => hkind h.2, if_neg hkind]
      rw [if_pos hcls, if_pos hcls, hdrops, State.capture_of_full hfull', State.accountOwn_lose]
      rfl
    · rw [if_neg hcls, if_neg hcls, if_neg fun h => hcls h.1, State.accountOwn_lose]
      rfl

/-! ### The frame that makes room (R88) -/

theorem lastIdx_eq_none {α : Type} {p : α → Bool} {l : List α} (h : ∀ y ∈ l, p y = false) : lastIdx p l = none := by
  induction l with
  | nil => rfl
  | cons a l ih =>
    rw [lastIdx, ih fun y hy => h y (List.mem_cons_of_mem _ hy)]
    exact if_neg (by rw [h a List.mem_cons_self]; nofun)

theorem lastIdx_eq_some {α : Type} {p : α → Bool} : ∀ {l : List α} {i : Nat} {x : α}, l[i]? = some x → p x = true →
    (∀ j y, l[j]? = some y → p y = true → j ≤ i) → lastIdx p l = some i
  | [], _, _, h, _, _ => by simp at h
  | a :: l, 0, x, h, hp, hlast => by
    obtain rfl : a = x := by simpa using h
    have hnone : lastIdx p l = none := lastIdx_eq_none fun y hy => by
      obtain ⟨j, hj⟩ := List.getElem?_of_mem hy
      by_contra hpy
      have := hlast (j + 1) y (by simpa using hj) (by simpa using hpy)
      omega
    rw [lastIdx, hnone]
    exact if_pos hp
  | a :: l, i + 1, x, h, hp, hlast => by
    rw [lastIdx, lastIdx_eq_some (by simpa using h) hp fun j y hj hy => by
      have := hlast (j + 1) y (by simpa using hj) hy
      omega]


/-- The frame that makes room: of the frames not in transmission with a higher class number, the one of the highest
class that was queued most recently. -/
theorem victimIdx_eq_some {q : List TxEntry} {c i : Nat} {x : TxEntry} (hx : q[i]? = some x) (hin : x.inTransmission = false)
    (hc : c < x.item.cls) (hlast : ∀ j y, q[j]? = some y → y.inTransmission = false → c < y.item.cls →
      y.item.cls < x.item.cls ∨ y.item.cls = x.item.cls ∧ j ≤ i) : victimIdx q c = some i := by
  have hle : x.item.cls ≤ 3 := by
    cases x.item with
    | report => exact le_rfl
    | frame f => cases f <;> simp [TxItem.cls, Frame.cls]
  have habove : ∀ k, x.item.cls < k → lastIdx (fun e => !e.inTransmission && e.item.cls == k) q = none := fun k hk =>
    lastIdx_eq_none fun y hy => by
      obtain ⟨j, hj⟩ := List.getElem?_of_mem hy
      by_contra hp
      obtain ⟨hyin, hcls⟩ : y.inTransmission = false ∧ y.item.cls = k := by simpa using hp
      rcases hlast j y hj hyin (by omega) with h | h <;> omega
  have hat : lastIdx (fun e => !e.inTransmission && e.item.cls == x.item.cls) q = some i :=
    lastIdx_eq_some hx (by simp [hin]) fun j y hj hp => by
      obtain ⟨hyin, hcls⟩ : y.inTransmission = false ∧ y.item.cls = x.item.cls := by simpa using hp
      rcases hlast j y hj hyin (by omega) with h | h <;> omega
  obtain h | h | h : x.item.cls = 3 ∨ x.item.cls = 2 ∨ x.item.cls = 1 := by omega
  · rw [h] at hat hc
    simp [victimIdx, hat, hc]
  · have h3 := habove 3 (by omega)
    rw [h] at hat hc
    simp [victimIdx, hat, hc, h3]
  · have h3 := habove 3 (by omega)
    have h2 := habove 2 (by omega)
    rw [h] at hat hc
    simp [victimIdx, hat, hc, h3, h2]

theorem victimIdx_eq_none {q : List TxEntry} {c : Nat} (h : ∀ y ∈ q, y.inTransmission = true ∨ y.item.cls ≤ c) :
    victimIdx q c = none := by
  have hnone : ∀ k, c < k → lastIdx (fun e => !e.inTransmission && e.item.cls == k) q = none := fun k hk =>
    lastIdx_eq_none fun y hy => by
      rcases h y hy with h | h
      · simp [h]
      · have : y.item.cls ≠ k := by omega
        simp [this]
  rw [victimIdx, List.findSome?_eq_none_iff]
  intro k _
  split
  next hk => exact hnone k hk
  next => rfl

section
variable {s : State} {f : Frame} (hfull : s.txQueue.length = Config.txCapacity)
include hfull

theorem State.enqueue_of_victim {i : Nat} {x : TxEntry} (hi : victimIdx s.txQueue f.cls = some i)
    (hx : s.txQueue[i]? = some x) : s.enqueue f =
      ({ s with txQueue := s.txQueue.eraseIdx i ++ [TxEntry.new (.frame f)] } : State).settleLoss x.item := by
  rw [State.enqueue, State.fillTeardown_of_full hfull]
  refine (if_neg (by omega)).trans ?_
  rw [hi]
  dsimp only
  rw [hx]

theorem State.enqueue_dropped (hnone : victimIdx s.txQueue f.cls = none) : s.enqueue f = s.settleLoss (.frame f) := by
  rw [State.enqueue, State.fillTeardown_of_full hfull]
  refine (if_neg (by omega)).trans ?_
  rw [hnone]

end

/-- Settles O32: with a full queue the victim, or the new frame, is lost, and its loss settled
(`State.settleLoss_of_full`). -/
theorem transmitOverflow : Obligations.TransmitOverflow := by
  intro s f i x hfull t settled
  have hsettled : ∀ {q : List TxEntry} {lost : TxItem}, q.length = Config.txCapacity →
      t = ({ s with txQueue := q } : State).settleLoss lost → t.txQueue = q ∧ settled lost := by
    intro q lost hq ht
    rw [State.settleLoss_of_full (s := { s with txQueue := q }) hq] at ht
    have hfault : t.fault = if lost.cls ≤ 1 then s.fault.after .txLost none none else s.fault := congrArg State.fault ht
    refine ⟨congrArg State.txQueue ht, congrArg State.txDrops ht, fun hc hk => ?_, fun hc hk => ?_, fun hc => ?_,
      congrArg State.reportSlot ht, congrArg State.breaksOut ht, congrArg State.restart ht, ?_⟩
    · rw [hfault, if_pos hc, FaultRecord.after, if_pos hk]
    · rw [hfault, if_pos hc, FaultRecord.after, if_neg (Option.isSome_iff_ne_none.1 hk)]
    · exact hfault.trans (if_neg (by omega))
    · rw [ht]
  refine ⟨fun hx hin hcls hlast => ?_, fun hnone => ?_⟩
  · have hlt : i < s.txQueue.length := (List.getElem?_eq_some_iff.1 hx).1
    refine hsettled ?_ (State.enqueue_of_victim hfull (victimIdx_eq_some hx hin hcls hlast) hx)
    rw [List.length_append, List.length_eraseIdx_of_lt hlt, List.length_singleton]
    omega
  · exact hsettled hfull (State.enqueue_dropped hfull (victimIdx_eq_none hnone))

/-! ### Attempts (R73, R74, R86, R87) -/

/-- The frame that an attempt offers: the head of the most urgent class. -/
theorem headIdx_eq_some {q : List TxEntry} {i : Nat} {x : TxEntry} (hx : q[i]? = some x)
    (hfirst : ∀ j y, q[j]? = some y → x.item.cls < y.item.cls ∨ x.item.cls = y.item.cls ∧ i ≤ j) : headIdx q = some i := by
  have hle : x.item.cls ≤ 3 := by
    cases x.item with
    | report => exact le_rfl
    | frame f => cases f <;> simp [TxItem.cls, Frame.cls]
  have hbelow : ∀ k, k < x.item.cls → q.findIdx? (fun e => e.item.cls == k) = none := fun k hk =>
    List.findIdx?_eq_none_iff.2 fun y hy => by
      obtain ⟨j, hj⟩ := List.getElem?_of_mem hy
      have : y.item.cls ≠ k := by
        rcases hfirst j y hj with h | h <;> omega
      simpa using this
  have hat : q.findIdx? (fun e => e.item.cls == x.item.cls) = some i := by
    obtain ⟨hlt, hxi⟩ := List.getElem?_eq_some_iff.1 hx
    refine List.findIdx?_eq_some_iff_getElem.2 ⟨hlt, by simp [hxi], fun j hj => ?_⟩
    have := hfirst j q[j] (List.getElem?_eq_getElem (by omega))
    have : q[j].item.cls ≠ x.item.cls := by omega
    simpa using this
  obtain h | h | h | h : x.item.cls = 0 ∨ x.item.cls = 1 ∨ x.item.cls = 2 ∨ x.item.cls = 3 := by omega
  all_goals
    have hb := fun k => hbelow k
    rw [h] at hat hb
    simp [headIdx, hat, hb]

theorem markIdx_eq_set {q : List TxEntry} {i : Nat} {x : TxEntry} (hx : q[i]? = some x) :
    markIdx i q = q.set i { x with inTransmission := true } := by
  refine List.ext_getElem? fun j => ?_
  obtain ⟨hlt, hxi⟩ := List.getElem?_eq_some_iff.1 hx
  rw [markIdx, List.getElem?_modify, List.getElem?_set]
  by_cases hij : i = j
  · subst hij
    simp [hlt, hxi]
  · simp [hij]

/-- Settles O28: each event of an attempt by the phase it needs; the free value says which subject a REPORT takes. -/
theorem attemptOffersMostUrgent : Obligations.AttemptOffersMostUrgent := by
  intro s i x q
  refine ⟨fun hl => if_pos hl, fun hl hn hp hx hfirst => ?_, fun hp => ?_, fun hp hx => ⟨fun f hf => ?_, fun hr u hu => ?_⟩⟩
  · change execTxAttemptStart s = _
    rw [execTxAttemptStart, if_pos ⟨hl, hn, hp⟩, headIdx_eq_some hx hfirst, ← markIdx_eq_set hx]
  · change execArbitrationLost s = _
    rw [execArbitrationLost, hp]
    rfl
  · change execArbitrationWon s = _
    rw [execArbitrationWon, hp]
    dsimp only
    rw [State.winAttempt, State.offered, hx]
    dsimp only
    rw [hf]
  · have hwon : exec .arbitrationWon s = .next (s.sendReport q) := by
      change execArbitrationWon s = _
      rw [execArbitrationWon, hp]
      dsimp only
      rw [State.winAttempt, State.offered, hx]
      dsimp only
      rw [hr]
    intro coded
    refine ⟨fun hq => ?_, fun v hq => ⟨Config.queryReplaces s.freeCount, ?_⟩⟩
    · rw [hwon, State.sendReport, hu, hq]
      rfl
    · rw [hwon, State.sendReport, hu, hq]
      rfl

/-! ### The end of the node's own frame (R75, R82, R87) -/

/-- A good frame that finds the receive queue full is lost (R82, R83). -/
theorem State.receive_of_full {s : State} (h : s.rxQueue.length = Config.rxCapacity) (rx : RxFrame) : s.receive rx =
    let u := (if rx.sender = s.address then s.accountOwn RestartSeq.lose rx.frame else s).capture .rxOverrun none none
    if s.nodeState = .running then u.beginRestart else u := by
  have hnode : ((if rx.sender = s.address then s.accountOwn RestartSeq.lose rx.frame else s).capture .rxOverrun none
      none).nodeState = s.nodeState := by
    rw [State.capture_nodeState]
    split <;> rfl
  rw [State.receive, if_neg (by omega)]
  dsimp only
  rw [hnode]

theorem exec_frameEnd_own {s : State} {f : Frame} (hp : s.txPhase = .sending f) (flagged : Bool) :
    exec (.frameEnd none flagged) s = .next (s.ownCompletes f flagged) := by
  change execFrameEnd none flagged s = _
  unfold execFrameEnd
  rw [hp]

/-- Settles O29: a flagged frame keeps its place, another is received like any; a full receive queue loses it. -/
theorem ownFrameEnds : Obligations.OwnFrameEnds := by
  intro s f hp sent lost begins
  have hflagged : exec (.frameEnd none true) s = .next s.keepPlace.countBad := exec_frameEnd_own hp true
  have hsent : exec (.frameEnd none false) s = .next (sent.receive ⟨s.address, f⟩) := exec_frameEnd_own hp false
  have hlost : sent.accountOwn RestartSeq.lose f = lost := by
    rw [State.accountOwn_lose]
    cases f <;> rfl
  have hfull : s.rxQueue.length = Config.rxCapacity →
      exec (.frameEnd none false) s = .next (begins (lost.capture .rxOverrun none none)) := fun h => by
    rw [hsent, State.receive_of_full (s := sent) h, if_pos (show (⟨s.address, f⟩ : RxFrame).sender = sent.address from rfl), hlost]
  refine ⟨fun hleaving => ?_, fun hleaving => ?_, fun hroom => ?_, fun h hkind => ?_, fun h hkind hroom => ?_⟩
  · rw [hflagged, State.keepPlace, if_neg (by rw [hleaving]; nofun)]
    rfl
  · rw [hflagged, State.keepPlace, if_pos hleaving]
    rfl
  · rw [hsent, State.receive_of_room (s := sent) hroom]
  · have hsome : lost.fault.kind ≠ none := Option.isSome_iff_ne_none.1 hkind
    rw [hfull h, State.capture_later _ hsome, FaultRecord.after, if_neg hsome]
  · have hnone : lost.fault.kind = none := hkind
    have hroom' : lost.roomFor 1 := by
      refine ⟨fun r hr => ?_, hroom.room⟩
      obtain ⟨r', hr', rfl⟩ := Option.map_eq_some_iff.1 hr
      exact hroom.noneWaits r' hr'
    rw [hfull h, State.capture_of_room _ hroom', FaultRecord.after, if_pos hnone, if_pos hnone]
    rfl

end Sys2Proof.Machine
end

section
/-!
PROOFS. The receiver: the checks of a frame (O30) and a good frame that finds the receive queue full (O31).
-/

namespace Sys2Proof.Machine

/-- The kind of a frame that the bits give is the kind asked for. -/
theorem code_of_frameOfBits {k : Nat} {bs : List Bool} {x : Frame} (h : frameOfBits k bs = some x) : k = x.code := by
  unfold frameOfBits at h
  dsimp only at h
  split at h
  case h_9 | h_15 => split at h <;> cases h <;> rfl
  case h_19 => cases h
  all_goals (cases h; rfl)

theorem ofRaw_layout {f : RawFrame} {x : Frame} (h : Frame.ofRaw f = some x) :
    f.cls.toNat = x.cls ∧ f.kind.toNat = x.code ∧ f.payload.length = x.length := by
  unfold Frame.ofRaw at h
  split at h
  next y hy =>
    split at h
    next hcond =>
      cases h
      exact ⟨hcond.1, code_of_frameOfBits hy, hcond.2⟩
    next => cases h
  next => cases h

section
variable {s : State} (hp : s.txPhase = .quiet)
include hp

theorem exec_frameEnd_other (f : RawFrame) (flagged : Bool) :
    exec (.frameEnd (some f) flagged) s = .next (if s.listens = true then s.frameCompletes f flagged else s) := by
  change execFrameEnd (some f) flagged s = _
  unfold execFrameEnd
  rw [hp]
  dsimp only
  split <;> rfl

theorem exec_overLongFrame : exec .overLongFrame s = .next (if s.listens = true then s.overLong else s) := by
  change execOverLongFrame s = _
  rw [execOverLongFrame, hp]
  cases s.listens <;> rfl

end

theorem State.listens_iff {s : State} : s.listens = true ↔ s.lineState = .following ∧ s.nodeState.takesFrames = true := by
  rw [State.listens, Bool.and_eq_true, beq_iff_eq]

/-- A frame that passes every check is received. -/
theorem State.frameCompletes_good {f : RawFrame} {x : Frame} (s : State) (hlen : f.payload.length ≤ 12) (hcrc : f.crc = rawCrc f)
    (hx : Frame.ofRaw f = some x) : s.frameCompletes f false = s.receive ⟨f.sender.toFin, x⟩ := by
  rw [State.frameCompletes, if_neg (show ¬Config.payloadMax < f.payload.length from not_lt.2 hlen), if_neg (by simp [hcrc]), hx]

/-- Settles O30: the checks are an if-chain, and a frame is decoded only with the code and length of its kind. -/
theorem frameIsCheckedAndQueued : Obligations.FrameIsCheckedAndQueued := by
  intro s f flagged hp bad follows
  have hexec := exec_frameEnd_other hp f flagged
  have hover := exec_overLongFrame hp
  refine ⟨fun hno => ?_, fun hl => ?_, fun hl hlen => ?_, fun hl hlen hbad => ?_, fun x hl hlen hflag hcrc hx hroom => ?_,
    fun x hx => ofRaw_layout hx⟩
  · rw [hexec, hover, if_neg (mt State.listens_iff.1 hno), if_neg (mt State.listens_iff.1 hno)]
    exact ⟨rfl, rfl⟩
  · rw [hover, if_pos (State.listens_iff.2 hl)]
    rfl
  · rw [hexec, if_pos (State.listens_iff.2 hl), State.frameCompletes, if_pos (show Config.payloadMax < f.payload.length from hlen)]
    rfl
  · rw [hexec, if_pos (State.listens_iff.2 hl), State.frameCompletes,
      if_neg (show ¬Config.payloadMax < f.payload.length from not_lt.2 hlen)]
    by_cases hcheck : (flagged || f.crc != rawCrc f) = true
    · rw [if_pos hcheck]
      rfl
    · rw [if_neg hcheck]
      have hnone : Frame.ofRaw f = none := by
        rcases hbad with h | h | h
        · exact absurd (by simp [h]) hcheck
        · exact absurd (by simp [h]) hcheck
        · exact h
      rw [hnone]
      rfl
  · rw [hexec, if_pos (State.listens_iff.2 hl), hflag, State.frameCompletes_good s hlen hcrc hx, State.receive_of_room hroom]

/-- Settles O31: the frame passes every check, so only the full queue is left (`State.receive_of_full`). -/
theorem receiveOverflowRestarts : Obligations.ReceiveOverflowRestarts := by
  intro s f x hp hl hlen hcrc hx hsender hfull
  have hexec : s.nodeState.takesFrames = true → exec (.frameEnd (some f) false) s =
      .next (if s.nodeState = .running then (s.capture .rxOverrun none none).beginRestart
        else s.capture .rxOverrun none none) := fun ht => by
    rw [exec_frameEnd_other hp, if_pos (State.listens_iff.2 ⟨hl, ht⟩), State.frameCompletes_good s hlen hcrc hx,
      State.receive_of_full hfull, if_neg hsender]
  refine ⟨_, exec_frameEnd_other hp f false, ?_⟩
  rw [exec_frameEnd_other hp] at hexec
  have hrunning : s.nodeState = .running → (if s.listens = true then s.frameCompletes f false else s) =
      (s.capture .rxOverrun none none).beginRestart := fun hn =>
    (Host.Outcome.next.inj (hexec (by rw [hn]; rfl))).trans (if_pos hn)
  have hother : s.nodeState = .restarting ∨ s.nodeState = .configFault →
      (if s.listens = true then s.frameCompletes f false else s) = s.capture .rxOverrun none none := fun hn =>
    (Host.Outcome.next.inj (hexec (by rcases hn with hn | hn <;> rw [hn] <;> rfl))).trans
      (if_neg (by rcases hn with hn | hn <;> rw [hn] <;> nofun))
  have hlater : s.fault.kind.isSome = true → s.capture .rxOverrun none none =
      { s with fault := { s.fault with later := min (s.fault.later + 1) 15 } } := fun hk => by
    rw [State.capture_later _ (Option.isSome_iff_ne_none.1 hk), FaultRecord.after, if_neg (Option.isSome_iff_ne_none.1 hk)]
  have hfirst : s.fault.kind = none → s.roomFor 1 → s.capture .rxOverrun none none = { s with
      fault := ⟨some .rxOverrun, none, none, 0⟩
      txQueue := s.txQueue ++ [⟨.frame (.notice .faultCaptured none 5), false, false⟩] } := fun hk hroom => by
    rw [State.capture_of_room _ hroom, FaultRecord.after, if_pos hk, if_pos hk]
    rfl
  refine ⟨fun hn hroom hk => ?_, fun hn hk => ?_, fun hn => ?_, fun hn hk => ?_, fun hn hroom hk => ?_, fun hn hk => ?_⟩
  · rw [hrunning hn, hfirst hk hroom]
  · rw [hrunning hn, hlater hk]
  · obtain ⟨q, r, heq⟩ := (s.capture .rxOverrun none none).beginRestart_eq
    rw [hrunning hn, heq]
    exact ⟨rfl, (s.capture_touches .rxOverrun none none).rxQueue⟩
  · rw [hother hn, hlater hk]
  · rw [hother hn, hfirst hk hroom]
  · have heq := s.capture_eq .rxOverrun none none
    rw [FaultRecord.after, if_pos hk] at heq
    rw [hother (.inl hn)]
    exact heq

end Sys2Proof.Machine
end

section
/-!
PROOFS. SCAN and the refusal of a scan (O45).
-/

namespace Sys2Proof.Machine

/-! ### The anchor's check of a SCAN (R139) -/

theorem Slot.currentThrow_eq (sl : Slot) :
    sl.currentThrow = (sl.scan.map (·.current)).getD ((sl.hops.getLast?.map (·.throw)).getD 15) := by
  rw [Slot.currentThrow]
  cases sl.scan <;> rfl

theorem Slot.newScan_eq (sl : Slot) (S : ThrowSet) (d k : Nat) : sl.newScan S d k = {
    throws := S, current := (sl.scan.map (·.current)).getD ((sl.hops.getLast?.map (·.throw)).getD 15)
    dwellReload := d, dwell := d, cyclesReload := k, cycles := k, pending := false
    overrun := (sl.scan.map (·.overrun)).getD 0, ended := false } := by
  rw [Slot.newScan, Slot.currentThrow_eq]
  cases sl.scan <;> rfl

theorem Slot.setHolds_inFlight (sl : Slot) (S : ThrowSet) : setHolds S sl.inFlight = true ↔
    (sl.state = .stepping → sl.hops ≠ [] → inSet S ((sl.hops.getLast?.map (·.throw)).getD 15) = true) ∧
    (sl.state = .quenching → sl.purpose = some .step → ∀ j, sl.stepThrow = some j → inSet S j = true) := by
  cases hs : sl.state
  case stepping =>
    have hlast : sl.hops = [] ∨ ∃ hp, sl.hops ≠ [] ∧ sl.hops.getLast? = some hp := by
      cases hh : sl.hops with
      | nil => exact .inl rfl
      | cons a l => exact .inr ⟨_, nofun, List.getLast?_eq_some_getLast (by simp)⟩
    rcases hlast with hh | ⟨hp, hne, hh⟩
    · simp [Slot.inFlight, hs, Slot.lastThrow, hh, setHolds]
    · simp [Slot.inFlight, hs, Slot.lastThrow, hh, hne, setHolds]
  case quenching =>
    by_cases hp : sl.purpose = some .step
    · cases hstep : sl.stepThrow <;> simp [Slot.inFlight, hs, hp, hstep, setHolds]
    · simp [Slot.inFlight, hs, hp, setHolds]
  all_goals simp [Slot.inFlight, hs, setHolds]

/-- A set fits when it is not empty and holds the current throw and the throw in flight. -/
theorem Slot.scanOk_iff (sl : Slot) (S : ThrowSet) : sl.scanOk S = true ↔
    S ≠ 0 ∧ inSet S sl.currentThrow = true ∧ setHolds S sl.inFlight = true := by
  rw [Slot.scanOk, Bool.and_eq_true, Bool.and_eq_true, bne_iff_ne, and_assoc]

section
variable {s : State} {g : Gate}

theorem State.scanAnchor_without_path (h : (s.slot g).state = .idle ∨ (s.slot g).state = .releasing) (S : ThrowSet)
    (d k : Nat) : s.scanAnchor g S d k = s := by
  rcases h with h | h <;> rw [State.scanAnchor, h]

theorem State.scanAnchor_with_path (hidle : (s.slot g).state ≠ .idle) (hrel : (s.slot g).state ≠ .releasing) (S : ThrowSet)
    (d k : Nat) : s.scanAnchor g S d k =
      if (s.slot g).scanOk S = true then s.setSlot g { s.slot g with scan := some ((s.slot g).newScan S d k) }
      else s.enqueueLast (.frame (.notice .scanRefused (some ⟨s.address, g⟩) Reason.badSet.code)) := by
  unfold State.scanAnchor
  dsimp only
  split
  next h => exact absurd h hidle
  next h => exact absurd h hrel
  all_goals rfl

theorem State.seeScanRefused_without_path (h : (s.slot g).state = .idle ∨ (s.slot g).state = .releasing) :
    s.seeScanRefused g = s := by
  rcases h with h | h <;> rw [State.seeScanRefused, h]

theorem State.seeScanRefused_with_path (hidle : (s.slot g).state ≠ .idle) (hrel : (s.slot g).state ≠ .releasing) :
    s.seeScanRefused g = if (s.slot g).scan.isSome = true then
        (s.setSlot g { s.slot g with scan := none }).enqueueLast
          (.frame (.notice .scanRefused (some ⟨s.address, g⟩) Reason.hopRefused.code))
      else s := by
  unfold State.seeScanRefused
  split
  next h => exact absurd h hidle
  next h => exact absurd h hrel
  all_goals rfl

end

/-! ### The last hop's check of a SCAN (R140) -/

theorem allElems_split (e : ElemNo) : allElems = allElems.filter (· < e) ++ e :: allElems.filter (e < ·) := by
  revert e
  decide

/-- The element holds the last hop of the handle. -/
def Element.holdsLastHop (h : Handle) (x : Element) : Bool := x.owner.any (fun o => o.handle == h && o.lastHop)

/-- The hop and the throw count of an element that holds the last hop of a handle. -/
def State.lastHopAt (s : State) (h : Handle) (e : ElemNo) : Option (HopNo × Nat) :=
  (s.elem e).bind (fun x => x.owner.bind (fun o => if o.handle = h ∧ o.lastHop then some (o.hop, x.throws) else none))

theorem State.lastHopAt_eq_none {s : State} {h : Handle} {e : ElemNo}
    (hx : ∀ x, s.elem e = some x → x.holdsLastHop h = false) : s.lastHopAt h e = none := by
  rw [State.lastHopAt]
  cases he : s.elem e with
  | none => rfl
  | some x =>
    have hno := hx x he
    rw [Element.holdsLastHop] at hno
    cases ho : x.owner with
    | none => simp [ho]
    | some o => simpa [ho] using hno

theorem State.lastHopAt_eq_some {s : State} {h : Handle} {e : ElemNo} {x : Element} {o : Owner} (hx : s.elem e = some x)
    (ho : x.owner = some o) (hlast : x.holdsLastHop h = true) : s.lastHopAt h e = some (o.hop, x.throws) := by
  rw [Element.holdsLastHop, ho] at hlast
  have : o.handle = h ∧ o.lastHop = true := by simpa using hlast
  rw [State.lastHopAt, hx]
  simp [ho, this]

theorem State.lastHopElem_eq_none {s : State} {h : Handle}
    (hnone : ∀ e x, s.elem e = some x → x.holdsLastHop h = false) : s.lastHopElem h = none :=
  List.findSome?_eq_none_iff.2 fun e _ => State.lastHopAt_eq_none (hnone e)

theorem State.lastHopElem_eq_some {s : State} {h : Handle} {e : ElemNo} {x : Element} {o : Owner} (hx : s.elem e = some x)
    (ho : x.owner = some o) (hlast : x.holdsLastHop h = true)
    (hfirst : ∀ f y, s.elem f = some y → f < e → y.holdsLastHop h = false) :
    s.lastHopElem h = some (o.hop, x.throws) := by
  refine List.findSome?_eq_some_iff.2 ⟨_, e, _, allElems_split e, State.lastHopAt_eq_some hx ho hlast, fun f hf => ?_⟩
  have hlt : f < e := by simpa using (List.mem_filter.1 hf).2
  exact State.lastHopAt_eq_none fun y hy => hfirst f y hy hlt

theorem setThrows_any_iff {S : ThrowSet} {n : Nat} :
    setThrows.any (fun t => inSet S t && decide (n ≤ t.val)) = true ↔ ∃ j : Throw, inSet S j = true ∧ n ≤ j.val := by
  rw [List.any_eq_true]
  constructor
  · rintro ⟨j, -, hj⟩
    exact ⟨j, by simpa using hj⟩
  · rintro ⟨j, hj, hn⟩
    exact ⟨j, mem_setThrows hj, by simp [hj, hn]⟩

theorem State.scanLastHop_of_room {s : State} {n : Nat} (hroom : s.roomFor (n + 1)) {h : Handle} {S : ThrowSet} {k : HopNo}
    {m : Nat} (hlast : s.lastHopElem h = some (k, m)) : s.scanLastHop h S =
      if setThrows.any (fun t => inSet S t && decide (m ≤ t.val)) = true then { s with
        txQueue := s.txQueue ++ [⟨.frame (.hopstat h (hopBit k) .scanRefused 4 false), false, false⟩] }
      else s := by
  rw [State.scanLastHop, hlast]
  dsimp only
  exact if_congr Iff.rfl (State.enqueue_of_room hroom _) rfl

/-- Settles O45: the anchor works first, and the last hop then on what it left (`State.scanLastHop_of_room`). -/
theorem scanCreatesOrRefusesRecord : Obligations.ScanCreatesOrRefusesRecord := by
  intro s a h hroom sl hasPath u
  have hslot : u.slot h.gate = sl := rfl
  have huroom : u.roomFor 2 := hroom.of_eq rfl rfl
  refine ⟨?_, ?_⟩
  · intro S d k hhead last current fits
    have hexec := exec_frameSeenScan_of_headFrame hhead
    refine ⟨fun hn => hexec.trans (congrArg _ (if_neg hn)), fun hn => ?_⟩
    rw [if_pos hn] at hexec
    have hfits : sl.scanOk S = true ↔ fits := by
      rw [Slot.scanOk_iff, Slot.setHolds_inFlight, Slot.currentThrow_eq]
    have hnone : ¬hasPath → (if h.anchor = s.address then u.scanAnchor h.gate S d.toNat k.toNat else u) = u := fun hno => by
      by_cases ha : h.anchor = s.address
      · rw [if_pos ha]
        refine State.scanAnchor_without_path (s := u) ?_ S _ _
        by_contra hstate
        exact hno ⟨ha, fun h => hstate (.inl h), fun h => hstate (.inr h)⟩
      · exact if_neg ha
    have hpath : hasPath → (if h.anchor = s.address then u.scanAnchor h.gate S d.toNat k.toNat else u) =
        if sl.scanOk S = true then u.setSlot h.gate { sl with scan := some (sl.newScan S d.toNat k.toNat) }
        else u.enqueueLast (.frame (.notice .scanRefused (some ⟨s.address, h.gate⟩) 20)) := fun ⟨ha, hidle, hrel⟩ =>
      (if_pos ha).trans (State.scanAnchor_with_path (s := u) hidle hrel S _ _)
    have hset : hasPath → fits → (if h.anchor = s.address then u.scanAnchor h.gate S d.toNat k.toNat else u) = { u with
        slots := s.slots.set h.gate { sl with
          scan := some {
            throws := S, current := current, dwellReload := d.toNat, dwell := d.toNat
            cyclesReload := k.toNat, cycles := k.toNat, pending := false
            overrun := (sl.scan.map (·.overrun)).getD 0, ended := false } } } := fun hp hf => by
      rw [hpath hp, if_pos (hfits.2 hf), Slot.newScan_eq]
      rfl
    have hrefused : hasPath → ¬fits → (if h.anchor = s.address then u.scanAnchor h.gate S d.toNat k.toNat else u) =
        { u with txQueue := s.txQueue ++ [⟨.frame (.notice .scanRefused (some h) 20), false, false⟩] } := fun hp hf => by
      have hhandle : (⟨s.address, h.gate⟩ : Handle) = h := by rw [← hp.1]
      rw [hpath hp, if_neg fun h => hf (hfits.1 h), State.enqueueLast_of_room huroom, hhandle]
      rfl
    change exec .frameSeenScan s = .next ((if h.anchor = s.address then u.scanAnchor h.gate S d.toNat k.toNat else u).scanLastHop
      h S) at hexec
    generalize (if h.anchor = s.address then u.scanAnchor h.gate S d.toNat k.toNat else u) = v at hexec hnone hset hrefused
    obtain ⟨hvroom, hvelem⟩ : v.roomFor 1 ∧ ∀ e, v.elem e = s.elem e := by
      have huroom1 : u.roomFor 1 := ⟨huroom.noneWaits, by have := huroom.room; omega⟩
      by_cases hp : hasPath
      · by_cases hf : fits
        · rw [hset hp hf]
          exact ⟨huroom1.of_eq rfl rfl, fun _ => rfl⟩
        · rw [hrefused hp hf]
          exact ⟨huroom.after rfl rfl, fun _ => rfl⟩
      · rw [hnone hp]
        exact ⟨huroom1, fun _ => rfl⟩
    refine ⟨_, v, hexec, hnone, hset, hrefused, fun hno => ?_, fun e x hx hlast hfirst => ⟨fun hin => ?_, fun hout o ho => ?_⟩⟩
    · rw [State.scanLastHop, State.lastHopElem_eq_none fun e x hx => hno e x (hvelem e ▸ hx)]
    · obtain ⟨o, ho⟩ : ∃ o, x.owner = some o := by
        cases ho : x.owner with
        | none => rw [ho] at hlast; cases hlast
        | some o => exact ⟨o, rfl⟩
      have hhop := State.lastHopElem_eq_some ((hvelem e).trans hx) ho hlast fun f y hy => hfirst f y (hvelem f ▸ hy)
      rw [State.scanLastHop_of_room hvroom hhop, if_neg]
      rw [setThrows_any_iff]
      rintro ⟨j, hj, hle⟩
      exact absurd (hin j hj) (not_lt.2 hle)
    · have hhop := State.lastHopElem_eq_some ((hvelem e).trans hx) ho hlast fun f y hy => hfirst f y (hvelem f ▸ hy)
      rw [State.scanLastHop_of_room hvroom hhop, if_pos (setThrows_any_iff.2 hout)]
      rfl
  · intro m r w hn hhead
    have hexec : exec .frameSeenHopstat s = .next (if s.anchors h then u.seeScanRefused h.gate else u) :=
      exec_frameSeenHopstat_of_headFrame hhead
    rw [hexec]
    by_cases hp : hasPath
    · have hsc : sl.scan.isSome = true ↔ hasPath ∧ sl.scan ≠ none := by
        rw [Option.isSome_iff_ne_none]
        exact (and_iff_right hp).symm
      have hhandle : (⟨s.address, h.gate⟩ : Handle) = h := by rw [← hp.1]
      have hroom' : (u.setSlot h.gate { sl with scan := none }).roomFor 2 := huroom.of_eq rfl rfl
      rw [if_pos (State.anchors_iff.2 ⟨hn, hp.1⟩), State.seeScanRefused_with_path (s := u) hp.2.1 hp.2.2]
      refine congrArg _ (if_congr hsc ?_ rfl)
      refine (State.enqueueLast_of_room hroom' _).trans ?_
      rw [show u.address = s.address from rfl, hhandle]
      rfl
    · refine congrArg _ (Eq.trans ?_ (if_neg fun hboth => hp hboth.1).symm)
      by_cases hanchors : s.anchors h = true
      · rw [if_pos hanchors]
        refine State.seeScanRefused_without_path (s := u) ?_
        by_contra hstate
        exact hp ⟨(State.anchors_iff.1 hanchors).2, fun h => hstate (.inl h), fun h => hstate (.inr h)⟩
      · exact if_neg hanchors

end Sys2Proof.Machine
end

section
/-!
PROOFS. The begin of a warm restart (O49).
-/

namespace Sys2Proof.Machine

/-! ### The handles that a node holds, in ascending order (R159) -/

theorem handleKey_injective {h k : Handle} (heq : handleKey h = handleKey k) : h = k := by
  unfold handleKey at heq
  have hg := h.gate.isLt
  have kg := k.gate.isLt
  cases h
  cases k
  simp only [Handle.mk.injEq, Fin.ext_iff] at *
  omega

/-- In a list in ascending order a handle is put in its place, unless it is there. -/
theorem mem_insertHandle {h : Handle} {m : HopMask} {p : Handle × HopMask} : ∀ {l : List (Handle × HopMask)},
    l.Pairwise (fun p q => handleKey p.1 < handleKey q.1) →
    (p ∈ insertHandle h m l ↔ p ∈ l ∨ p = (h, m) ∧ ∀ q ∈ l, q.1 ≠ h)
  | [], _ => by simp [insertHandle]
  | q :: l, hl => by
    obtain ⟨hq, hl⟩ := List.pairwise_cons.1 hl
    rw [insertHandle]
    split
    next hlt =>
      have hne : ∀ r ∈ q :: l, r.1 ≠ h := by
        rintro r hr rfl
        obtain rfl | hr := List.mem_cons.1 hr
        · exact lt_irrefl _ hlt
        · exact lt_asymm hlt (hq r hr)
      rw [List.mem_cons]
      exact ⟨fun h => h.elim (fun h => .inr ⟨h, hne⟩) .inl, fun h => h.elim .inr fun h => .inl h.1⟩
    next hge =>
      split
      next heq => exact ⟨.inl, fun h => h.elim id fun ⟨_, hne⟩ => absurd heq.symm (hne q List.mem_cons_self)⟩
      next hne =>
        rw [List.mem_cons, mem_insertHandle hl, List.mem_cons, List.forall_mem_cons]
        have : q.1 ≠ h := fun h => hne h.symm
        tauto

theorem pairwise_insertHandle {h : Handle} {m : HopMask} : ∀ {l : List (Handle × HopMask)},
    l.Pairwise (fun p q => handleKey p.1 < handleKey q.1) →
    (insertHandle h m l).Pairwise (fun p q => handleKey p.1 < handleKey q.1)
  | [], _ => by simp [insertHandle]
  | q :: l, hl => by
    obtain ⟨hq, htail⟩ := List.pairwise_cons.1 hl
    rw [insertHandle]
    split
    next hlt =>
      refine List.pairwise_cons.2 ⟨fun r hr => ?_, hl⟩
      obtain rfl | hr := List.mem_cons.1 hr
      · exact hlt
      · exact hlt.trans (hq r hr)
    next hge =>
      split
      next => exact hl
      next hne =>
        refine List.pairwise_cons.2 ⟨fun r hr => ?_, pairwise_insertHandle htail⟩
        rcases (mem_insertHandle htail).1 hr with hr | ⟨rfl, -⟩
        · exact hq r hr
        · exact lt_of_le_of_ne (not_lt.1 hge) fun heq => hne (handleKey_injective heq).symm

/-- The handles of a list of owners, each with the mask of its first. -/
theorem foldl_insertHandle (os : List Owner) :
    (os.foldl (fun l o => insertHandle o.handle o.mask l) []).Pairwise (fun p q => handleKey p.1 < handleKey q.1) ∧
    ∀ h m, (h, m) ∈ os.foldl (fun l o => insertHandle o.handle o.mask l) [] ↔
      (os.find? (fun o => o.handle == h)).map (·.mask) = some m := by
  induction os using List.reverseRecOn with
  | nil => exact ⟨.nil, by simp⟩
  | append_singleton os o ih =>
    obtain ⟨hsorted, hmem⟩ := ih
    rw [List.foldl_append, List.foldl_cons, List.foldl_nil]
    refine ⟨pairwise_insertHandle hsorted, fun h m => ?_⟩
    rw [mem_insertHandle hsorted, hmem, List.find?_append, Prod.mk.injEq]
    cases hfind : os.find? (fun o => o.handle == h) with
    | some o' =>
      rw [Option.some_or]
      refine ⟨fun hor => hor.elim id fun ⟨⟨hh, _⟩, hnew⟩ => ?_, .inl⟩
      exact absurd hh (hnew (h, o'.mask) ((hmem h o'.mask).2 (by rw [hfind]; rfl)))
    | none =>
      have hnew : h = o.handle → ∀ q ∈ os.foldl (fun l o => insertHandle o.handle o.mask l) [], q.1 ≠ o.handle := by
        rintro rfl ⟨k, n⟩ hq rfl
        have := (hmem _ n).1 hq
        rw [hfind] at this
        cases this
      rw [Option.none_or, List.find?_singleton]
      by_cases hh : o.handle = h
      · rw [if_pos (by rw [hh]; exact beq_self_eq_true h)]
        simp only [Option.map_none, Option.map_some, reduceCtorEq, false_or, Option.some.injEq]
        exact ⟨fun h => h.1.2.symm, fun hm => ⟨⟨hh.symm, hm.symm⟩, hnew hh.symm⟩⟩
      · simp [hh, Ne.symm hh]

theorem State.mem_heldHandles {s : State} {h : Handle} {m : HopMask} :
    (h, m) ∈ s.heldHandles ↔ s.holds h = true ∧ s.maskOf h = m := by
  have hholds : s.holds h = true ↔ (s.owners.find? (fun o => o.handle == h)).isSome = true := by
    rw [State.holds, State.anyElem_iff, List.find?_isSome]
    simp only [State.owners, List.mem_filterMap, mem_allElems, true_and, Option.bind_eq_some_iff, beq_iff_eq, Element.ownedBy_iff,
      Option.map_eq_some_iff]
    constructor
    · rintro ⟨e, x, hx, o, ho, hh⟩
      exact ⟨o, ⟨e, x, hx, ho⟩, hh⟩
    · rintro ⟨o, ⟨e, x, hx, ho⟩, hh⟩
      exact ⟨e, x, hx, o, ho, hh⟩
  rw [State.heldHandles, (foldl_insertHandle s.owners).2 h m, State.maskOf, hholds]
  cases s.owners.find? (fun o => o.handle == h) <;> simp

/-! ### The state in which a warm restart begins (R158, R159) -/

theorem State.fillTeardown_of_some {s : State} {r : RestartSeq} (hr : s.restart = some r) : s.fillTeardown = { s with
    txQueue := s.txQueue ++ (r.waiting.take (24 - s.txQueue.length)).map (fun f => .new (.frame f))
    restart := some { r with
      waiting := r.waiting.drop (24 - s.txQueue.length)
      outstanding := r.outstanding ++ (r.waiting.take (24 - s.txQueue.length)).filterMap Frame.teardown } } := by
  rw [State.fillTeardown, hr]
  rfl

theorem exec_frameSeenRestart_of_headFrame {s : State} {a : Address} {target : Target}
    (hhead : s.headFrame = some ⟨a, .restart target⟩) :
    exec .frameSeenRestart s = .next (if s.obeys target then s.popFrame.beginRestart else s.popFrame) := by
  change execFrameSeenRestart s = _
  rw [execFrameSeenRestart, hhead]

theorem State.restartReleases_eq (s : State) : s.restartReleases =
    (allGates.filter (fun g => (s.slot g).state != .idle && (s.slot g).state != .releasing)).map
      (fun g => .release ⟨s.address, g⟩ 18) := by
  have hfilter : allGates.filter (fun g => (s.slot g).state.tornDown) =
      allGates.filter (fun g => (s.slot g).state != .idle && (s.slot g).state != .releasing) :=
    List.filter_congr fun g _ => by cases (s.slot g).state <;> rfl
  rw [State.restartReleases, hfilter]
  rfl

/-- A drop-out BREAK in the transmit queue covers its handle. -/
theorem State.adopted_contains_brk {s : State} {h : Handle} :
    s.adopted.contains (.brk h) = true ↔ ∃ y ∈ s.txQueue, ∃ m, y.item = .frame (.brk h m 19) := by
  have hcode : Reason.dropOut.code = 19 := rfl
  rw [List.contains_iff_mem, State.adopted, List.mem_filterMap, hcode]
  refine exists_congr fun y => and_congr_right fun _ => ?_
  constructor
  · intro hy
    split at hy
    next h' m r hitem =>
      split at hy
      next hr =>
        cases hy
        exact ⟨m, hr ▸ hitem⟩
      next => cases hy
    next =>
      split at hy <;> cases hy
    next => cases hy
  · rintro ⟨m, hitem⟩
    rw [hitem]
    rfl

/-- The BREAKs of a restart, one for each handle in ascending order. -/
theorem State.restartBreaks_eq (s : State) : s.restartBreaks =
    ((s.heldHandles.filter (fun p => p.1.anchor != s.address && !s.adopted.contains (.brk p.1))).map (·.1)).map
      (fun h => .brk h (s.maskOf h) 18) := by
  rw [State.restartBreaks, List.map_map]
  refine List.map_congr_left fun p hp => ?_
  have hmask := (State.mem_heldHandles (h := p.1) (m := p.2)).1 (List.mem_filter.1 hp).1
  simp only [Function.comp, hmask.2]
  rfl

/-- Settles O49: the BREAKs follow the sorted list of held handles (`foldl_insertHandle`). -/
theorem restartBegins : Obligations.RestartBegins := by
  intro s a target hhead u acts
  have hexec : exec .frameSeenRestart s = .next (if s.obeys target then u.beginRestart else u) :=
    exec_frameSeenRestart_of_headFrame hhead
  have hobeys : s.obeys target = true ↔ acts := by
    simp [State.obeys, State.addressedBy, acts]
  refine ⟨_, hexec, fun hno => if_neg (mt hobeys.1 hno), fun hacts hlen => ?_⟩
  rw [if_pos (hobeys.2 hacts)]
  refine ⟨(s.heldHandles.filter (fun p => p.1.anchor != s.address && !s.adopted.contains (.brk p.1))).map (·.1), ?_, fun h => ?_, ?_⟩
  · refine List.pairwise_map.2 (List.Pairwise.filter _ ?_)
    exact (foldl_insertHandle s.owners).1
  · rw [List.mem_map]
    constructor
    · rintro ⟨p, hp, rfl⟩
      obtain ⟨hmem, hcond⟩ := List.mem_filter.1 hp
      rw [Bool.and_eq_true, bne_iff_ne, Bool.not_eq_true', Bool.eq_false_iff, ne_eq, ne_eq, State.adopted_contains_brk] at hcond
      exact ⟨(State.mem_heldHandles.1 hmem).1, hcond.1, fun y hy m hitem => hcond.2 ⟨y, hy, m, hitem⟩⟩
    · rintro ⟨hholds, hanchor, hno⟩
      refine ⟨(h, s.maskOf h), List.mem_filter.2 ⟨State.mem_heldHandles.2 ⟨hholds, rfl⟩, ?_⟩, rfl⟩
      rw [Bool.and_eq_true, bne_iff_ne, Bool.not_eq_true', Bool.eq_false_iff, ne_eq, ne_eq, State.adopted_contains_brk]
      exact ⟨hanchor, fun ⟨y, hy, m, hitem⟩ => hno y hy m hitem⟩
  · intro frames room
    have hframes : u.restartBreaks ++ u.restartReleases = frames :=
      congrArg₂ (· ++ ·) s.restartBreaks_eq s.restartReleases_eq
    have hbegin : u.beginRestart = ({ u with
        nodeState := .restarting, restartDrive := true, gateOut := Vector.replicate 8 false
        slots := s.slots.map Slot.stopTimers
        restart := some ⟨frames, s.adopted, false, u.sentUnseen⟩ } : State).fillTeardown := by
      rw [State.beginRestart, hframes]
      rfl
    rw [hbegin, State.fillTeardown_of_some rfl]
    refine ⟨rfl, fun g => ?_⟩
    exact Vector.getElem_map ..

end Sys2Proof.Machine
end

section
/-!
PROOFS. QUERY, and the fields of a REPORT (O47).
-/

namespace Sys2Proof.Machine

/-! ### A QUERY (R172, R173) -/

theorem exec_frameSeenQuery_of_headFrame {s : State} {a : Address} {target : Target} {q : Subject}
    (hhead : s.headFrame = some ⟨a, .query target q⟩) : exec .frameSeenQuery s =
      .next (if (s.nodeState.answersQueries && s.addressedBy target && s.answers q) = true then s.popFrame.seeQuery q
        else s.popFrame) := by
  change execFrameSeenQuery s = _
  rw [execFrameSeenQuery, hhead]

/-- The subjects that a node answers (R172). -/
theorem State.answers_iff {s : State} {q : Subject} {n : Nat} (hn : ∀ e : ElemNo, (s.elem e).isSome = true ↔ e.val < n) :
    s.answers q = true ↔ q.kind = 0 ∨ q.kind = 1 ∧ s.nodeState = .running ∧ q.index.val < n ∨ q.kind = 2 ∧ q.index.val < 8 := by
  rw [State.answers]
  split
  next h => simp [h]
  next h0 =>
    split
    next h => simp [h, hn]
    next h1 =>
      split
      next h => simp [h]
      next h2 => simp [h0, h1, h2]

theorem NodeState.answersQueries_iff {n : NodeState} : n.answersQueries = true ↔ n = .running ∨ n = .configFault := by
  cases n <;> simp [NodeState.answersQueries]

section
variable {s : State} (q : Subject)

theorem State.queueReport_of_room {n : Nat} (hroom : s.roomFor (n + 1)) :
    s.queueReport q = { s with reportSlot := some q, txQueue := s.txQueue ++ [⟨.report, false, false⟩] } := by
  rw [State.queueReport, hroom.fill, State.enqueueLast_of_room hroom]
  exact if_pos hroom.lt

theorem State.queueReport_of_full (hfull : s.txQueue.length = Config.txCapacity) : s.queueReport q = s.countDrop := by
  rw [State.queueReport, State.fillTeardown_of_full hfull, State.enqueueLast_of_length hfull]
  exact if_neg (by omega)

theorem State.seeQuery_of_empty (hu : s.reportSlot = none) : s.seeQuery q = s.queueReport q := by
  rw [State.seeQuery, hu]

variable (hu : s.reportSlot.isSome = true)
include hu

theorem State.seeQuery_of_waiting (hsent : s.reportInTransmission ≠ true) :
    s.seeQuery q = { s with reportSlot := some q } := by
  obtain ⟨u, hu⟩ := Option.isSome_iff_exists.1 hu
  rw [State.seeQuery, hu]
  exact if_neg hsent

theorem State.seeQuery_of_arbitrating (hsent : s.reportInTransmission = true) {p : Option Subject}
    (hp : s.txPhase = .arbitrating p) : s.seeQuery q = { s with txPhase := .arbitrating (some q) } := by
  obtain ⟨u, hu⟩ := Option.isSome_iff_exists.1 hu
  rw [State.seeQuery, hu, hp]
  exact if_pos hsent

theorem State.seeQuery_of_sending (hsent : s.reportInTransmission = true) (hp : ∀ p, s.txPhase ≠ .arbitrating p) :
    s.seeQuery q = s := by
  obtain ⟨u, hu⟩ := Option.isSome_iff_exists.1 hu
  rw [State.seeQuery, hu]
  dsimp only
  rw [if_pos hsent]
  split
  next p h => exact absurd h (hp p)
  all_goals rfl

end

/-! ### The fields of a REPORT (R78) -/

@[simp] theorem field_locationBits_skip {l : Option ElemNo} {off w : Nat} {bs : List Bool} (h : 6 ≤ off) :
    field (locationBits l ++ bs) off w = field bs (off - 6) w := by
  rw [field_append_right (by simpa using h), locationBits_length]

@[simp] theorem field_optHandleBits_skip {l : Option Handle} {off w : Nat} {bs : List Bool} (h : 10 ≤ off) :
    field (optHandleBits l ++ bs) off w = field bs (off - 10) w := by
  rw [field_append_right (by simpa using h), optHandleBits_length]

theorem State.nodeReport_fields (s : State) :
    s.nodeReport.length = 65 ∧ field s.nodeReport 0 3 = s.nodeState.code ∧
    field s.nodeReport 22 4 = s.fault.later % 16 ∧ field s.nodeReport 26 8 = s.badFrames % 256 ∧
    field s.nodeReport 34 8 = s.txDrops % 256 ∧ field s.nodeReport 42 8 = s.laneHold.toNat ∧
    field s.nodeReport 50 1 = s.config.rotating.toNat ∧
    field s.nodeReport 51 3 = (if s.config.rotating = true then s.orderHead.val else 0) ∧
    field s.nodeReport 54 5 = s.moveQueue.length % 32 ∧ field s.nodeReport 59 3 = s.busyChannels % 8 ∧
    field s.nodeReport 62 1 = s.coilOk.toNat ∧ field s.nodeReport 63 1 = s.quenchSensed.toNat ∧
    field s.nodeReport 64 1 = s.quenchDriven.toNat := by
  have hcode : s.nodeState.code < 8 := by cases s.nodeState <;> decide
  have hlane : s.laneHold.toNat < 256 := s.laneHold.isLt
  have horder : (if s.config.rotating = true then s.orderHead.val else 0) < 8 := by
    have := s.orderHead.isLt
    split <;> omega
  unfold State.nodeReport
  simp only [List.append_assoc]
  refine ⟨by simp, ?_, ?_, ?_, ?_, ?_, ?_, ?_, ?_, ?_, ?_, ?_, ?_⟩
  all_goals simp [field_natBits_append, hcode, hlane, horder]

/-- The fault of a node REPORT. -/
theorem State.nodeReport_fault (s : State) :
    field s.nodeReport 3 3 = (s.fault.kind.map FaultKind.code).getD 0 ∧
    (s.fault.location = none → field s.nodeReport 6 6 = 0) ∧
    (∀ e, s.fault.location = some e → field s.nodeReport 6 2 = 1 ∧ field s.nodeReport 8 4 = e.val) ∧
    (s.fault.handle = none → field s.nodeReport 12 10 = 0) ∧
    ∀ h, s.fault.handle = some h → field s.nodeReport 12 1 = 1 ∧ field s.nodeReport 13 6 = h.anchor.val ∧
      field s.nodeReport 19 3 = h.gate.val := by
  unfold State.nodeReport
  simp only [List.append_assoc]
  refine ⟨?_, fun hl => ?_, fun e hl => ?_, fun hh => ?_, fun h hh => ?_⟩
  · cases s.fault.kind with
    | none => simp
    | some k => cases k <;> simp [FaultKind.code]
  · rw [hl]
    simp [locationBits]
  · rw [hl]
    simp [locationBits]
  · rw [hh]
    simp [optHandleBits]
  · rw [hh]
    simp [optHandleBits, handleBits]

theorem Element.reportBits_fields (x : Element) :
    field x.reportBits 0 4 = x.state.code ∧ field x.reportBits 4 4 = (x.commanded.map (·.val)).getD 15 ∧
    field x.reportBits 8 4 = x.sensed.code ∧ field x.reportBits 12 2 = x.half.code ∧
    field x.reportBits 25 1 = x.retry.toNat ∧ field x.reportBits 26 24 = x.wear % 16777216 ∧
    field x.reportBits 50 1 = x.wearWarning.toNat ∧ field x.reportBits 51 1 = x.faultLatch.toNat := by
  have hstate : x.state.code < 16 := by cases x.state <;> decide
  have hcommanded : commandedCode x.commanded = (x.commanded.map (·.val)).getD 15 := by cases x.commanded <;> rfl
  have hthrow : (x.commanded.map (·.val)).getD 15 < 16 := by
    cases x.commanded with
    | none => decide
    | some k => exact k.isLt
  have hsensed : x.sensed.code < 16 := by
    cases x.sensed with
    | throw k => exact k.isLt
    | noContact => decide
    | multi => decide
  have hhalf : x.half.code < 4 := by cases x.half <;> decide
  unfold Element.reportBits
  rw [hcommanded]
  simp only [List.append_assoc]
  refine ⟨?_, ?_, ?_, ?_, ?_, ?_, ?_, ?_⟩
  all_goals simp [field_natBits_append, hstate, hthrow, hsensed, hhalf]

/-- The owner of an element REPORT. -/
theorem Element.reportBits_owner (x : Element) :
    (x.owner = none → field x.reportBits 14 11 = 0) ∧
    ∀ o, x.owner = some o → field x.reportBits 14 1 = 1 ∧ field x.reportBits 15 6 = o.handle.anchor.val ∧
      field x.reportBits 21 3 = o.handle.gate.val ∧ field x.reportBits 24 1 = o.tentative.toNat := by
  unfold Element.reportBits
  simp only [List.append_assoc]
  refine ⟨fun ho => ?_, fun o ho => ?_⟩
  · rw [ho]
    have hzero : ∀ l, natBits 10 0 ++ false :: l = natBits 11 0 ++ l := fun _ => rfl
    simp [optHandleBits, hzero]
  · rw [ho]
    simp [optHandleBits, handleBits]

theorem Slot.reportBits_fields (sl : Slot) :
    field sl.reportBits 0 3 = sl.state.code ∧ field sl.reportBits 3 4 = sl.hops.length % 16 ∧
    field sl.reportBits 7 8 = sl.ready.toNat := by
  have hstate : sl.state.code < 8 := by cases sl.state <;> decide
  have hready : sl.ready.toNat < 256 := sl.ready.isLt
  unfold Slot.reportBits
  simp only [List.append_assoc]
  refine ⟨?_, ?_, ?_⟩
  all_goals simp [field_natBits_append, hstate, hready, Slot.count]

/-- The scan of a gate REPORT. -/
theorem Slot.reportBits_scan (sl : Slot) :
    (sl.scan = none → field sl.reportBits 15 43 = 0) ∧
    ∀ sc, sl.scan = some sc → field sl.reportBits 15 1 = 1 ∧ field sl.reportBits 16 12 = sc.throws.toNat ∧
      field sl.reportBits 28 4 = sc.current.val ∧ field sl.reportBits 32 8 = sc.dwell % 256 ∧
      field sl.reportBits 40 8 = sc.cycles % 256 ∧ field sl.reportBits 48 1 = sc.pending.toNat ∧
      field sl.reportBits 49 8 = sc.overrun % 256 ∧ field sl.reportBits 57 1 = sc.ended.toNat := by
  unfold Slot.reportBits
  simp only [List.append_assoc]
  refine ⟨fun hsc => ?_, fun sc hsc => ?_⟩
  · rw [hsc]
    simp [scanBits, field_natBits]
  · have hthrows : sc.throws.toNat < 4096 := sc.throws.isLt
    rw [hsc]
    simp [scanBits, field_natBits_append, hthrows]

theorem State.busyChannels_eq (s : State) :
    s.busyChannels = ((List.finRange 4).filter (fun ch => decide (s.channel ch ≠ .idle))).length := by
  have hbusy : ∀ c : Channel, c.busy = decide (c ≠ .idle) := fun c => by cases c <;> simp [Channel.busy]
  have hall : allChannels = List.finRange 4 := by decide
  rw [State.busyChannels, hall]
  simp only [hbusy]

/-- One pending move at most for each element (R37). -/
theorem State.arbiterSafe.moveQueue_length_le {s : State} (h : s.arbiterSafe) : s.moveQueue.length ≤ 16 := by
  have hnodup := (List.nodup_append.1 h.one).1
  have := List.Nodup.length_le_card hnodup
  simpa using this

/-- Settles O47: the cases of `seeQuery`, and the layouts of the REPORTs field by field. -/
theorem queryIsAnsweredOrIgnored : Obligations.QueryIsAnsweredOrIgnored := by
  refine ⟨fun s hs => ?_, ?_, ?_, ?_, ?_⟩
  · have hnone : s.headFrame = none := by
      rcases hs with hs | hs <;> rw [State.headFrame, hs] <;> rfl
    change execFrameSeenQuery s = _
    rw [execFrameSeenQuery, hnone]
  · intro s a target q n hhead helems u answered offered
    have hanswered : (s.nodeState.answersQueries && s.addressedBy target && s.answers q) = true ↔ answered := by
      rw [Bool.and_eq_true, Bool.and_eq_true, NodeState.answersQueries_iff, State.answers_iff helems, State.addressedBy,
        Bool.or_eq_true, beq_iff_eq]
      exact ⟨fun ⟨⟨hn, ht⟩, hq⟩ => ⟨ht, hn, hq⟩, fun ⟨ht, hn, hq⟩ => ⟨⟨hn, ht⟩, hq⟩⟩
    have hacts : answered → (if (s.nodeState.answersQueries && s.addressedBy target && s.answers q) = true then
        s.popFrame.seeQuery q else s.popFrame) = u.seeQuery q := fun h => if_pos (hanswered.2 h)
    refine ⟨_, exec_frameSeenQuery_of_headFrame hhead, fun hno => if_neg (mt hanswered.1 hno), fun h hslot hroom => ?_,
      fun h hslot hrestart hfull => ?_, fun h hslot hno => ?_, fun h hslot hsent hp => ?_, fun p hp h hslot hsent => ?_⟩
    all_goals rw [hacts h]
    · have huroom : u.roomFor 1 := hroom.of_eq rfl rfl
      rw [State.seeQuery_of_empty (s := u) q hslot, State.queueReport_of_room q huroom]
    · rw [State.seeQuery_of_empty (s := u) q hslot, State.queueReport_of_full (s := u) q hfull]
      rfl
    · exact State.seeQuery_of_waiting (s := u) q hslot hno
    · exact State.seeQuery_of_sending (s := u) q hslot hsent hp
    · exact State.seeQuery_of_arbitrating (s := u) q hslot hsent hp
  · intro s i c
    have hc : c = s.nodeReport := rfl
    obtain ⟨hlen, hnode, hlater, hbad, hdrops, hlane, hrotating, horder, hmoves, hbusy, hcoil, hquench, hdriven⟩ :=
      s.nodeReport_fields
    obtain ⟨hkind, hnoloc, hloc, hnohandle, hhandle⟩ := s.nodeReport_fault
    rw [hc]
    refine ⟨hlen, hnode, ?_, ?_, ?_, fun hb => ⟨?_, ?_, ?_⟩, hlane, hrotating, horder, fun harb => ?_, ?_, hcoil, hquench,
      hdriven⟩
    · rw [hkind]
      cases s.fault.kind with
      | none => rfl
      | some k => cases k <;> rfl
    · cases hl : s.fault.location with
      | none => exact hnoloc hl
      | some e => exact hloc e hl
    · cases hh : s.fault.handle with
      | none => exact hnohandle hh
      | some h => exact hhandle h hh
    · exact hlater.trans (Nat.mod_eq_of_lt (Nat.lt_succ_of_le hb.later))
    · exact hbad.trans (Nat.mod_eq_of_lt (Nat.lt_succ_of_le hb.bad))
    · exact hdrops.trans (Nat.mod_eq_of_lt (Nat.lt_succ_of_le hb.drops))
    · have := harb.moveQueue_length_le
      exact hmoves.trans (Nat.mod_eq_of_lt (by omega))
    · have hle : s.busyChannels ≤ 4 := List.length_filter_le _ allChannels
      rw [hbusy, Nat.mod_eq_of_lt (by omega), s.busyChannels_eq]
  · intro s e x hx c
    have hc : c = x.reportBits := by
      change s.reportContent ⟨1, e⟩ = _
      rw [State.reportContent, if_neg (show ¬(1 : Fin 4) = 0 from by decide), if_pos rfl, hx]
    obtain ⟨hstate, hcommanded, hsensed, hhalf, hretry, hwear, hwarning, hlatch⟩ := x.reportBits_fields
    obtain ⟨hnone, howner⟩ := x.reportBits_owner
    rw [hc]
    refine ⟨x.reportBits_length, hstate, hcommanded, hsensed, hhalf, ?_, hretry,
      fun hle => hwear.trans (Nat.mod_eq_of_lt (Nat.lt_succ_of_le hle)), hwarning, hlatch⟩
    cases ho : x.owner with
    | none => exact hnone ho
    | some o => exact howner o ho
  · intro s g c sl
    have hg : Fin.ofNat 8 (Fin.ofNat 16 g.val).val = g := by
      revert g
      decide
    have hc : c = sl.reportBits := congrArg (fun g => (s.slot g).reportBits) hg
    obtain ⟨hstate, hcount, hready⟩ := sl.reportBits_fields
    obtain ⟨hnone, hscan⟩ := sl.reportBits_scan
    rw [hc]
    refine ⟨sl.reportBits_length, hstate, fun hle => hcount.trans (Nat.mod_eq_of_lt (by omega)), hready, ?_⟩
    cases hsc : sl.scan with
    | none => exact hnone hsc
    | some sc =>
      obtain ⟨hone, hthrows, hcurrent, hdwell, hcycles, hpending, hoverrun, hended⟩ := hscan sc hsc
      exact ⟨hone, hthrows, hcurrent, fun h => hdwell.trans (Nat.mod_eq_of_lt (Nat.lt_succ_of_le h)),
        fun h => hcycles.trans (Nat.mod_eq_of_lt (Nat.lt_succ_of_le h)), hpending,
        fun h => hoverrun.trans (Nat.mod_eq_of_lt (Nat.lt_succ_of_le h)), hended⟩

end Sys2Proof.Machine
end
